-- ==== Sys2Proof/Word.lean ====
section
/-! DEFINITION. Words of the machine: the widths the manual gives its bytes, its two-byte and its four-byte fields
(00_scope.md, Multi-byte fields), and the index types of its buffers and page slots.
-/
namespace Sys2Proof

/-- One byte of frame memory or of a message. -/
abbrev Byte := BitVec 8

/-- A two-byte counter that wraps, such as the timeline's sequence number (R152). -/
abbrev Half := BitVec 16

/-- A four-byte counter that wraps, such as the frame number (R19). -/
abbrev Word := BitVec 32

/-- The number of a frame buffer, 0–23 (R1). -/
abbrev BufId := Fin 24

/-- The number of a page slot, 0–19 (R120). -/
abbrev SlotId := Fin 20

end Sys2Proof
end

