-- ==== Sys2Proof/Config.lean ====
section
/-! DEFINITION. Config: the constants of the part, fixed for every machine (00_scope.md, Principal figures; R1, R187).
-/
namespace Sys2Proof.Config

/-- Bytes of frame memory, 512 MiB (R1). -/
abbrev memorySize : Nat := 536870912

/-- Bytes of one frame buffer (R1). -/
abbrev bufferSize : Nat := 22118400

/-- Bytes of one line of a buffer (R1). -/
abbrev lineSize : Nat := 7680

/-- Lines of a sensor frame (R17). -/
abbrev frameLines : Nat := 2880

/-- Pixels of a sensor line (R17). -/
abbrev framePixels : Nat := 3840

/-- Cells of a thumbnail (R34). -/
abbrev thumbCells : Nat := 3072

/-- What a byte of frame memory reads as when nothing has written it.
DESIGN CHOICE (log 2): R1 calls such a byte not meaningful. -/
abbrev unwritten : Byte := 0

/-- Notices a port's queue holds (R179). -/
abbrev noticeRoom : Nat := 16

/-- Entries the timeline holds (R152). -/
abbrev timelineRoom : Nat := 256

/-- Payload bytes of a full export block (R169). -/
abbrev blockSize : Nat := 8192

/-- The lesson time at which the clock holds, 23:59:59.99 (R144). -/
abbrev lastCentisecond : Nat := 8639999

end Sys2Proof.Config
end

