-- ==== Sys2Proof/Syntax.lean ====
section
/-! DEFINITION. Syntax: the commands of the part, one constructor of `Instr` per row of spec/opcode_table.json. The table
gives no operands; the operands here are the model's (log 7, log 10, log 17, log 20, log 23, log 27): a request command names the port
whose request slot it serves, and an event command carries what the event's rule says it carries. The operand `pause` of the
three commands that can bring a timed capture names a port whose LESSON_PAUSE meets it (R159; log 17); left out, no pause meets
it, an EXPORT_PULL without its operand is the opening of a transfer (R162; log 20), and a PART_READ without its second operand is the
answer of every block that has not answered yet (R189; log 27).
-/
namespace Sys2Proof

/-- The three control ports (00_scope.md, The three masters). -/
inductive Port
  | panel
  | desk
  | recorder
deriving DecidableEq, Repr

/-- The two page channels of the export link (R168). -/
inductive Channel
  | ex0
  | ex1
deriving DecidableEq, Repr

/-- The areas of the output picture a feed read can belong to (R72, R100). -/
inductive FeedArea
  | full
  | left
  | right
deriving DecidableEq, Repr

/-- One pixel pair: four samples in the order of R1 and R17. -/
structure Pair where
  /-- Y of the first pixel. -/
  y0 : Byte
  /-- Cb of the pair. -/
  cb : Byte
  /-- Y of the second pixel. -/
  y1 : Byte
  /-- Cr of the pair. -/
  cr : Byte
deriving DecidableEq, Repr

/-- What of a WRITE transaction one command covers: the selection, each byte clocked and the deselection are events of their
own (R180, R191; log 10). -/
inductive WritePart
  /-- A whole transaction with these bytes clocked, its transaction byte first. -/
  | whole (bytes : List Byte)
  /-- The master selects the port, which begins a transaction. -/
  | select
  /-- The master clocks these bytes, the transaction byte being the first after the selection. -/
  | clock (bytes : List Byte)
  /-- The master deselects the port, which ends the transaction. -/
  | deselect
deriving DecidableEq, Repr

/-- What of a FETCH transaction one command covers (R182; log 10). -/
inductive FetchPart
  /-- A whole transaction in which the master clocks `clocked` bytes after the transaction byte. -/
  | whole (clocked : Nat)
  /-- The transaction byte 02h has been received and the port chooses its item. -/
  | choose
  /-- The master clocks `count` more bytes. -/
  | clock (count : Nat)
  /-- The master deselects the port. -/
  | deselect
deriving DecidableEq, Repr

/-- What of a transfer on the export link one command covers: the opening, each byte clocked and the closing are events of
their own (R162; log 20). -/
inductive PullPart
  /-- The recorder opens a transfer, which is the pull. -/
  | opening
  /-- The recorder clocks `count` more bytes. -/
  | clock (count : Nat)
  /-- The recorder closes the transfer. -/
  | closing
deriving DecidableEq, Repr

/-- The blocks that answer PART_READ (R189). -/
inductive SummaryBlock
  | intake
  | feed
  | tenancy
  | lesson
  | store
  | pool
  | link
deriving DecidableEq, Repr

/-- What of a PART_READ one command covers: its blocks answer one after another (R189; log 27). -/
inductive SummaryPart
  /-- One block answers as it stands. -/
  | ask (block : SummaryBlock)
  /-- The blocks that have not answered yet answer, and the reply is placed. -/
  | rest
deriving DecidableEq, Repr

/-- The commands of the part. -/
inductive Instr
  /-- PART_RESET, R190: Assertion of the part reset line returns every block, port and parameter to its reset state. -/
  | partReset (sense panel desk recorder : Bool)
  /-- REQUEST_WRITE, R180: A WRITE transaction reaches its last argument byte; the port takes the request into a FREE slot or answers QUEUE_FULL or BAD_LENGTH in the acceptance byte. -/
  | requestWrite (p : Port) (part : WritePart)
  /-- FETCH, R182: A FETCH transaction returns the oldest reply, else the oldest notice, else an empty item, and removes it once its last byte is clocked. -/
  | fetch (p : Port) (part : FetchPart)
  /-- UNKNOWN_REQUEST_CODE, R181: A request whose code names no request is handed on, and the port answers UNKNOWN_REQUEST itself. -/
  | unknownRequestCode (p : Port)
  /-- PRESENCE_LOST, R184: A port's presence line becomes absent and the port undergoes a port reset. -/
  | presenceLost (p : Port)
  /-- PRESENCE_RESTORED, R184: A port's presence line becomes present, and the port records it. -/
  | presenceRestored (p : Port)
  /-- PART_READ, R189: Reports the 19-byte summary of the part's state. -/
  | partRead (p : Port) (part : SummaryPart := .rest)
  /-- SET_PARAM, R188: Writes one parameter, clamped or validated, and the owning block acts on the new value. -/
  | setParam (p : Port)
  /-- GET_PARAM, R188: Reads one parameter, or the requesting port's notice mask. -/
  | getParam (p : Port)
  /-- PORT_RESET, R185: Resets the requesting port as if its presence line had dropped, keeping only this request's reply. -/
  | portReset (p : Port)
  /-- CLAIM_VIEW, R106: Asks for the view or changes the holder's flags; the request is granted, preempts, waits or is answered BUSY. -/
  | claimView (p : Port)
  /-- RELEASE_VIEW, R112: The holder gives up the view to the best waiter, or to no port. -/
  | releaseView (p : Port)
  /-- WITHDRAW_CLAIM, R113: Removes the requesting port's entry from the wait set. -/
  | withdrawClaim (p : Port)
  /-- TENANCY_READ, R114: Reports the tenancy record. -/
  | tenancyRead (p : Port)
  /-- IDLE_YIELD, R108: The holder's idle time reaches its threshold while a port waits, and the view passes to the best waiter with cause IDLE. -/
  | idleYield
  /-- ZOOM_TO, R61: Sets the staged zoom target and glide step, both clamped. -/
  | zoomTo (p : Port)
  /-- ZOOM_BY, R62: Moves the staged zoom target by a signed amount and sets the glide step. -/
  | zoomBy (p : Port)
  /-- PAN_TO, R63: Sets the staged centre, clamped to the frame. -/
  | panTo (p : Port)
  /-- PAN_BY, R64: Moves the staged centre by signed amounts, clamped to the frame. -/
  | panBy (p : Port)
  /-- SET_SOURCE, R65: Stages CAMERA, or a STORED page in PAGE or SPLIT, as the source. -/
  | setSource (p : Port)
  /-- FREEZE, R66: Takes the newest complete frame into HELD and sets the staged frozen flag. -/
  | freeze (p : Port)
  /-- UNFREEZE, R67: Releases the HELD buffer and clears the staged frozen flag. -/
  | unfreeze (p : Port)
  /-- BLANK, R68: Sets the staged blank flag. -/
  | blank (p : Port)
  /-- UNBLANK, R68: Clears the staged blank flag. -/
  | unblank (p : Port)
  /-- VIEW_READ, R69: Reports the staged and active view records and the HELD buffer. -/
  | viewRead (p : Port)
  /-- SET_CLARITY, R33: Stages a clarity profile to be latched at the next frame start. -/
  | setClarity (p : Port)
  /-- SET_EXPOSURE, R43: Selects the exposure mode and, in MANUAL, sets the exposure index. -/
  | setExposure (p : Port)
  /-- SET_LAMP, R45: Sets the lamp set level and switches auto lamp on or off. -/
  | setLamp (p : Port)
  /-- PICTURE_READ, R54: Reports the intake, light control and motion meter fields. -/
  | pictureRead (p : Port)
  /-- SET_OUTPUT_MODE, R88: Selects the output mode and, when a projector is attached, re-enters STARTING. -/
  | setOutputMode (p : Port)
  /-- FEED_READ, R89: Reports the feed record. -/
  | feedRead (p : Port)
  /-- CAPTURE_NOW, R124: Stores the newest complete live frame at once in the lowest EMPTY page record. -/
  | captureNow (p : Port)
  /-- CAPTURE_NEXT, R127: Reserves the lowest EMPTY page record for the first frame that starts after the request. -/
  | captureNext (p : Port)
  /-- DISCARD, R134: Removes a page or cancels a reservation, making it EMPTY or DISCARDING, or refuses with IN_VIEW or NO_PAGE. -/
  | discard (p : Port)
  /-- LABEL, R136: Gives a reserved or stored page a new label. -/
  | label (p : Port)
  /-- PAGE_READ, R137: Reports one page record without its thumbnail. -/
  | pageRead (p : Port)
  /-- THUMB_READ, R138: Reports one thumbnail row of a stored page or of the newest live frame. -/
  | thumbRead (p : Port)
  /-- LESSON_START, R145: Starts a new numbered lesson from IDLE and appends LESSON_STARTED. -/
  | lessonStart (p : Port)
  /-- LESSON_PAUSE, R147: Pauses a RUNNING lesson and its clock. -/
  | lessonPause (p : Port)
  /-- LESSON_RESUME, R147: Resumes a PAUSED lesson. -/
  | lessonResume (p : Port)
  /-- LESSON_END, R148: Ends the lesson into CLOSING and appends LESSON_ENDED. -/
  | lessonEnd (p : Port)
  /-- LESSON_CLEAR, R158: Abandons the undelivered timeline of a CLOSING lesson and returns the lesson to IDLE. -/
  | lessonClear (p : Port)
  /-- LESSON_READ, R150: Reports the lesson record and the timeline counts. -/
  | lessonRead (p : Port)
  /-- EXPORT_PAGE, R171: Starts the export of a stored page on a page channel and pins the page's buffer. -/
  | exportPage (p : Port)
  /-- EXPORT_STOP, R173: Stops a page channel and keeps its progress, going to STOPPED or STOPPING. -/
  | exportStop (p : Port)
  /-- EXPORT_CONTINUE, R174: Resumes a stopped or halted page channel, or clears it if its page is gone. -/
  | exportContinue (p : Port)
  /-- EXPORT_RESUME, R167: Returns a halted export link to READY. -/
  | exportResume (p : Port)
  /-- EXPORT_READ, R175: Reports the link record and both page channel records. -/
  | exportRead (p : Port)
  /-- SENSOR_FRAME_START, R19: A frame start ends any frame in hand, numbers the new frame, applies exposure and lamp, latches clarity and asks for a write buffer. -/
  | sensorFrameStart (elapsed : Word)
  /-- SENSOR_LINE_START, R21: A line start on the sensor link opens a line in RECEIVING. -/
  | sensorLineStart
  /-- SENSOR_PIXEL_PAIR, R21: A pixel pair is counted, added to the thumbnail sums and passed through the clarity filter. -/
  | sensorPixelPair (pair : Pair)
  /-- SENSOR_LINE_END, R21: A line end closes a whole line and writes the sharpened previous line. -/
  | sensorLineEnd
  /-- SENSOR_FRAME_END, R25: A frame end after 2880 whole lines writes the last line, rounds the thumbnail and awaits the results of the writes. -/
  | sensorFrameEnd
  /-- FRAME_COMPLETION, R25: When every write of the frame has succeeded, the buffer is marked complete, any stall is lifted and the frame report is sent. -/
  | frameCompletion
  /-- INTAKE_WRITE_FAULT, R24: A forwarded write fault for the write buffer makes the current frame malformed. -/
  | intakeWriteFault (buffer : BufId)
  /-- STALL_EVENT, R28: The since-completion count reaches STALL_LIMIT; the stall is set and signalled to the light control unit, the motion meter and the page store. -/
  | stallEvent
  /-- LIGHT_FRAME_REPORT, R40: The light control unit meters the active camera window and steps the exposure index and the auto-lamp runs. -/
  | lightFrameReport
  /-- AUTO_LAMP_STEP, R46: A dark or bright run reaches 30 reports and the set level is raised or lowered by 1. -/
  | autoLampStep
  /-- MOTION_FRAME_REPORT, R49: The motion meter scores the report, moves the page-turn detector and passes the report to the page store. -/
  | motionFrameReport
  /-- DETECTOR_FIRE, R50: The settle count reaches SETTLE_FRAMES and the report is marked fire. -/
  | detectorFire
  /-- PAGE_STORE_FRAME_REPORT, R128: The page store fills reservations from a forwarded report and then tries a page-turn capture. -/
  | pageStoreFrameReport
  /-- OUTPUT_FRAME_START, R83: The output timing starts an output frame; the view commits, the feed begins its frame and the intake counts since completion. -/
  | outputFrameStart
  /-- FEED_STARTED, R85: The starting count has reached 4 at a frame begin, and the feed enters RUNNING with FEED_STATE STARTED. -/
  | feedStarted
  /-- SENSE_PRESENT, R84: The projector sense line becomes present, and the feed enters STARTING from DETACHED. -/
  | sensePresent
  /-- SENSE_ABSENT, R84: The projector sense line becomes absent, and the feed enters DETACHED and stops driving the link. -/
  | senseAbsent
  /-- FEED_READ_FAULT, R100: A forwarded read fault blackens the rest of the area for the output frame and posts FEED_FAULT. -/
  | feedReadFault (area : FeedArea) (buffer : BufId) (line pair : Nat)
  /-- MILLISECOND_TICK, R108: The millisecond tick raises the idle time, the lesson tick count, the timeline count and the delivery time. -/
  | millisecondTick (pause : Option Port := none)
  /-- CLOCK_CENTISECOND, R144: The tick count reaches 10 in RUNNING, and the lesson clock chain advances one centisecond with its carries. -/
  | clockCentisecond (pause : Option Port := none)
  /-- TIMED_CAPTURE_EXPIRY, R151: The timed counter reaches the interval, returns to 0 and passes a timed capture to the page store. -/
  | timedCaptureExpiry (pause : Option Port := none)
  /-- LAMP_PULSE_START, R48: Each period P after the frame start a new lamp pulse begins and the lamp line goes high. -/
  | lampPulseStart
  /-- LAMP_ON_TIME_END, R48: The on-time of a pulse runs out and the lamp line goes low. -/
  | lampOnTimeEnd
  /-- EXPORT_PULL, R162: The recorder opens a transfer, and it is answered with a chosen channel's block, an IDLE header or a HALTED header. -/
  | exportPull (part : PullPart := .opening)
  /-- EXPORT_DELIVERY_COMPLETED, R165: The recorder clocks the last byte of the block in flight; the link returns to READY and the block's channel counts it. -/
  | exportDeliveryCompleted
  /-- EXPORT_DELIVERY_TIMEOUT, R165: The delivery time reaches EXPORT_TIMEOUT and the link halts with cause TIMEOUT. -/
  | exportDeliveryTimeout
  /-- EXPORT_LINK_ERROR, R166: A broken or faulty transfer halts the link with cause LINK_ERROR. -/
  | exportLinkError
  /-- EXPORT_MEMORY_FAULT, R166: A failed read of page data for the block in flight halts the link with cause MEMORY. -/
  | exportMemoryFault (channel : Channel) (buffer : BufId)
deriving DecidableEq, Repr

end Sys2Proof
end

