-- ==== Sys2Proof/WellFormed.lean ====
section
/-! DEFINITION. WellFormed: which commands the links of the part can deliver at all. A command that fails a check is one
no master and no link can send; exec gives it a meaning all the same.
-/
namespace Sys2Proof

/-- A fault report of the feed names an output line and a pixel pair inside the largest output picture (R82). -/
def faultPlaceOk (line pair : Nat) : Bool := decide (line < 1080 ∧ pair < 960)

/-- A whole WRITE transaction opens with the transaction byte 01h (R191). -/
def writeOk : WritePart → Bool
  | .whole bytes => bytes.head? == some 1
  | _ => true

/-- The check of one command (R82, R100, R191). A command whose operand types already bound it passes. -/
def WellFormed : Instr → Bool
  | .requestWrite _ part => writeOk part
  | .feedReadFault _ _ line pair => faultPlaceOk line pair
  | .partReset _ _ _ _ => true
  | .fetch _ _ => true
  | .unknownRequestCode _ => true
  | .presenceLost _ => true
  | .presenceRestored _ => true
  | .partRead _ _ => true
  | .setParam _ => true
  | .getParam _ => true
  | .portReset _ => true
  | .claimView _ => true
  | .releaseView _ => true
  | .withdrawClaim _ => true
  | .tenancyRead _ => true
  | .idleYield => true
  | .zoomTo _ => true
  | .zoomBy _ => true
  | .panTo _ => true
  | .panBy _ => true
  | .setSource _ => true
  | .freeze _ => true
  | .unfreeze _ => true
  | .blank _ => true
  | .unblank _ => true
  | .viewRead _ => true
  | .setClarity _ => true
  | .setExposure _ => true
  | .setLamp _ => true
  | .pictureRead _ => true
  | .setOutputMode _ => true
  | .feedRead _ => true
  | .captureNow _ => true
  | .captureNext _ => true
  | .discard _ => true
  | .label _ => true
  | .pageRead _ => true
  | .thumbRead _ => true
  | .lessonStart _ => true
  | .lessonPause _ => true
  | .lessonResume _ => true
  | .lessonEnd _ => true
  | .lessonClear _ => true
  | .lessonRead _ => true
  | .exportPage _ => true
  | .exportStop _ => true
  | .exportContinue _ => true
  | .exportResume _ => true
  | .exportRead _ => true
  | .sensorFrameStart _ => true
  | .sensorLineStart => true
  | .sensorPixelPair _ => true
  | .sensorLineEnd => true
  | .sensorFrameEnd => true
  | .frameCompletion => true
  | .intakeWriteFault _ => true
  | .stallEvent => true
  | .lightFrameReport => true
  | .autoLampStep => true
  | .motionFrameReport => true
  | .detectorFire => true
  | .pageStoreFrameReport => true
  | .outputFrameStart => true
  | .feedStarted => true
  | .sensePresent => true
  | .senseAbsent => true
  | .millisecondTick _ => true
  | .clockCentisecond _ => true
  | .timedCaptureExpiry _ => true
  | .lampPulseStart => true
  | .lampOnTimeEnd => true
  | .exportPull _ => true
  | .exportDeliveryCompleted => true
  | .exportDeliveryTimeout => true
  | .exportLinkError => true
  | .exportMemoryFault _ _ => true

end Sys2Proof
end

