-- ==== Sys2Proof/Decode.lean ====
section
/-! DEFINITION. Decode: the commands that words spell. The opcode table gives none of its rows any bits, so no word spells
a command (log 18). How a request message spells a request is in Machine/Operands.lean and Machine/Ops.lean.
-/
namespace Sys2Proof

/-- The command a word of `nbits` bits spells by the table: none, since no row of the table has bits. -/
def decodeTableWord (_nbits _w : Nat) : Option Instr := none

end Sys2Proof
end

