-- ==== Sys2Proof/Machine/State.lean ====
section
/-! DEFINITION. State: every piece of state the spec gives the part, block by block, and the part right after reset.
Plain data only. INVENTORY.md lists each field with its rule and its reset value.
-/
namespace Sys2Proof.Machine

/-! ### Frame memory and buffer pool (01_frame_memory_and_buffer_pool.md) -/

/-- The use a buffer is put to (R3). -/
inductive Role
  | free
  | ring
  | held
  | page
  | retiring
deriving DecidableEq, Repr

/-- The metadata written at completion (R2, R8). -/
structure FrameMeta where
  frame : Word
  gain : Nat
  core : Nat
  exposure : Nat
  lamp : Nat
  thumb : List Byte
deriving DecidableEq, Repr

/-- One buffer record (R2). `complete` is the complete flag together with the metadata that is meaningful only while
the flag is set (log 15). -/
structure BufRec where
  role : Role
  pins : Nat
  complete : Option FrameMeta
deriving DecidableEq, Repr

/-- The buffer pool: 24 records and the ring list, front first (R2, R5). -/
structure Pool where
  buffers : Vector BufRec 24
  ring : List BufId
deriving DecidableEq, Repr

/-- A frame report in transit (R26). -/
structure Report where
  buffer : BufId
  frame : Word
  thumb : List Byte
deriving DecidableEq, Repr

/-! ### Intake unit (02_intake_and_page_clarity.md) -/

/-- Intake state (section 2.2). -/
inductive IntakeState
  | seeking
  | receiving
deriving DecidableEq, Repr

/-- Clarity profile (R32). -/
inductive Profile
  | off
  | text
  | picture
  | custom
deriving DecidableEq, Repr

/-- The intake record of section 2.2, with the received lines that the clarity filter still needs (R30; log 25):
`above` and `held` are the two lines received last, `incoming` the pairs of the line being received, newest first. -/
structure Intake where
  state : IntakeState
  stalled : Bool
  writeBuffer : Option BufId
  startCount : Word
  lineCount : Nat
  pixelCount : Nat
  lineOpen : Bool
  frameEnd : Bool
  lastStart : Option Word
  lastInterval : Option Word
  profile : Profile
  gain : Nat
  core : Nat
  setExposure : Nat
  setLamp : Nat
  sums : List Nat
  sinceCompletion : Nat
  lastCompleted : Word
  completed : Bool
  skipped : Nat
  malformed : Nat
  above : List Pair
  held : List Pair
  incoming : List Pair
deriving DecidableEq, Repr

/-! ### Light control unit and motion meter (03_exposure_lamp_and_motion.md) -/

/-- Exposure mode (section 3.1). -/
inductive ExposureMode
  | auto
  | hold
  | manual
deriving DecidableEq, Repr

/-- Mean and cell count of the last report processed in AUTO (R39). -/
structure Meter where
  mean : Nat
  cells : Nat
deriving DecidableEq, Repr

/-- The light control record of section 3.1, the two lines it drives (R38, R48) and the reports it has yet to process
(log 9). -/
structure Light where
  mode : ExposureMode
  e : Nat
  manual : Nat
  stalled : Bool
  last : Option Meter
  setLevel : Nat
  applied : Nat
  auto : Bool
  darkRun : Nat
  brightRun : Nat
  period : Nat
  onTime : Nat
  controlLine : Nat
  lampHigh : Bool
  pulse : Nat
  trainTime : Nat
  reports : List Report
deriving DecidableEq, Repr

/-- Page-turn detector state (section 3.7). -/
inductive Detector
  | watching
  | moving
  | settling
deriving DecidableEq, Repr

/-- A frame report in transit to the motion meter, and whether its frame ended a stall (R29, R53). -/
structure MeterReport where
  report : Report
  endsStall : Bool
deriving DecidableEq, Repr

/-- The motion meter (section 3.7) and the reports it has yet to process (log 9). -/
structure Motion where
  previous : Option (List Byte)
  score : Option Nat
  detector : Detector
  settle : Nat
  reports : List MeterReport
deriving DecidableEq, Repr

/-! ### View unit (04_the_view.md) -/

/-- What the projector shows (R57). -/
inductive Source
  | camera
  | page
  | split
deriving DecidableEq, Repr

/-- A page named by slot and serial (R57, R152). -/
structure PageRef where
  slot : SlotId
  serial : Nat
deriving DecidableEq, Repr

/-- The fields the staged and the active view share (R57). -/
structure ViewRec where
  source : Source
  frozen : Bool
  page : Option PageRef
  target : Nat
  glide : Nat
  cx : Nat
  cy : Nat
  blank : Bool
  author : Option Port
deriving DecidableEq, Repr

/-- A window: origin, size, decimation and step (R57, R75). -/
structure Window where
  x0 : Nat
  y0 : Nat
  w : Nat
  h : Nat
  d : Nat
  step : Nat
deriving DecidableEq, Repr

/-- The view unit: both records, the fields the commit computes, the HELD buffer and the moved flag (R57). -/
structure View where
  staged : ViewRec
  active : ViewRec
  zoom : Nat
  camera : Window
  pageArea : Option Window
  held : Option BufId
  moved : Bool
deriving DecidableEq, Repr

/-! ### Projector feed (05_projector_feed.md) -/

/-- Feed state (R84). -/
inductive FeedState
  | detached
  | starting
  | running
deriving DecidableEq, Repr

/-- Output mode (R82). -/
inductive OutputMode
  | mode0
  | mode1
  | mode2
deriving DecidableEq, Repr

/-- What an area is sending (R93). -/
inductive Showing
  | picture
  | blackState
  | blackBlank
  | blackNoFrame
  | blackFault
deriving DecidableEq, Repr

/-- The output line and pixel pair at which a read fault reached the feed (R100; log 13). -/
structure FaultPlace where
  line : Nat
  pair : Nat
deriving DecidableEq, Repr

/-- One area of the feed record (section 5.2). -/
structure Area where
  pin : Option BufId
  showing : Showing
  fault : Option FaultPlace
deriving DecidableEq, Repr

/-- The feed record (section 5.2). `first` is the full area, or the left area in SPLIT; `second` the right area. -/
structure Feed where
  state : FeedState
  mode : OutputMode
  sense : Bool
  starting : Nat
  frames : Word
  first : Area
  second : Area
  faults : Nat
deriving DecidableEq, Repr

/-! ### View tenancy unit (06_view_tenancy.md) -/

/-- One entry of the wait set (R107). -/
structure Waiter where
  port : Port
  holdFast : Bool
  singleUse : Bool
deriving DecidableEq, Repr

/-- The tenancy record (R102). -/
structure Tenancy where
  holder : Option Port
  holdFast : Bool
  singleUse : Bool
  idle : Nat
  waiters : List Waiter
deriving DecidableEq, Repr

/-! ### Page store (07_page_store.md) -/

/-- Origin of a page (R120). -/
inductive Origin
  | auto
  | port (p : Port)
deriving DecidableEq, Repr

/-- Trigger of a capture (R120). -/
inductive Trigger
  | manual
  | timed
  | pageTurn
deriving DecidableEq, Repr

/-- The fields present in RESERVED, STORED and DISCARDING (R120). -/
structure PageTag where
  serial : Nat
  origin : Origin
  trigger : Trigger
  label : List Byte
deriving DecidableEq, Repr

/-- Lesson number and lesson time of a page captured in RUNNING or PAUSED (R120). -/
structure LessonTag where
  number : Nat
  time : Nat
deriving DecidableEq, Repr

/-- The fields present in STORED and DISCARDING (R120). -/
structure PageData where
  lesson : Option LessonTag
  zoom : Nat
  x0 : Nat
  y0 : Nat
  w : Nat
  h : Nat
  frame : Word
  gain : Nat
  core : Nat
  exposure : Nat
  lamp : Nat
  thumb : List Byte
  exported : Bool
  buffer : BufId
deriving DecidableEq, Repr

/-- One page record: its state and the fields present in that state (R120, R121). A DISCARDING record also keeps the
port that asked for the discard, which R134 puts into the notice R135 posts later (log 19). -/
inductive PageRec
  | empty
  | reserved (tag : PageTag) (after : Word)
  | stored (tag : PageTag) (data : PageData)
  | discarding (tag : PageTag) (data : PageData) (by_ : Port)
deriving DecidableEq, Repr

/-- A frame report passed on by the motion meter, with its fire mark (R52). -/
structure StoreReport where
  report : Report
  fire : Bool
deriving DecidableEq, Repr

/-- The page store: table, store list, last serial and the reports it has yet to serve (R120, R122, R123; log 9). -/
structure Store where
  pages : Vector PageRec 20
  list : List SlotId
  lastSerial : Nat
  reports : List StoreReport
deriving DecidableEq, Repr

/-! ### Lesson clock and timeline (08_lesson_clock_and_timeline.md) -/

/-- Lesson state (section 8.1). -/
inductive LessonState
  | idle
  | running
  | paused
  | closing
deriving DecidableEq, Repr

/-- The lesson record (R143). -/
structure Lesson where
  state : LessonState
  number : Nat
  hundredths : Nat
  seconds : Nat
  minutes : Nat
  hours : Nat
  ticks : Nat
  timed : Nat
deriving DecidableEq, Repr

/-- The sixteen kinds of timeline entry (R152). -/
inductive EntryKind
  | lessonStarted
  | lessonPaused
  | lessonResumed
  | lessonEnded
  | pageCaptured
  | captureSkipped
  | pageDiscarded
  | pageShown
  | liveShown
  | freezeOn
  | freezeOff
  | blankOn
  | blankOff
  | viewChanged
  | tenantChanged
  | gap
deriving DecidableEq, Repr

/-- The view part of an entry (R152). -/
structure ViewPart where
  zoom : Nat
  cx : Nat
  cy : Nat
deriving DecidableEq, Repr

/-- What a block offers to the timeline (R153). -/
structure Offer where
  kind : EntryKind
  port : Option Port
  page : Option PageRef
  view : Option ViewPart
  extra : Nat
deriving DecidableEq, Repr

/-- One timeline entry (R152). -/
structure Entry where
  seq : Half
  time : Nat
  what : Offer
  isSealed : Bool
  arrival : Word
deriving DecidableEq, Repr

/-- The timeline: entries oldest first, gap count, next sequence number, millisecond count (R152). -/
structure Timeline where
  entries : List Entry
  gap : Nat
  nextSeq : Half
  ms : Word
deriving DecidableEq, Repr

/-! ### Export link unit (09_export_link.md) -/

/-- Halt cause (R161). -/
inductive HaltCause
  | timeout
  | linkError
  | linkDown
  | memory
deriving DecidableEq, Repr

/-- Kind of a block that is a delivery (R164). -/
inductive BlockKind
  | pageHeader
  | pageData
  | timeline
deriving DecidableEq, Repr

/-- The block in flight: its channel (none for the timeline channel), index and kind (R161). -/
structure Block where
  channel : Option Channel
  index : Nat
  kind : BlockKind
deriving DecidableEq, Repr

/-- Link state, with the block in flight in DELIVERING and the halt cause in HALTED (R161). -/
inductive LinkState
  | ready
  | delivering (block : Block)
  | halted (cause : HaltCause)
deriving DecidableEq, Repr

/-- Scope of an export (R168). -/
inductive Scope
  | full
  | window
deriving DecidableEq, Repr

/-- Mode of an export (R168). -/
inductive ExportMode
  | burst
  | interleaved
deriving DecidableEq, Repr

/-- The states of a page channel other than IDLE (R168). -/
inductive Phase
  | active
  | stopping
  | stopped
  | halted
  | done
deriving DecidableEq, Repr

/-- The fields of a page channel present in all states but IDLE (R168). `total` counts the header block. -/
structure ChanData where
  slot : SlotId
  serial : Nat
  buffer : BufId
  scope : Scope
  mode : ExportMode
  total : Nat
  sent : Nat
  requester : Port
  snapshot : List Byte
  /-- The camera window at capture, x0, y0, w, h, that a WINDOW export cuts (R169). -/
  x0 : Nat
  y0 : Nat
  w : Nat
  h : Nat
deriving DecidableEq, Repr

/-- A page channel record (R168). -/
inductive Chan
  | idle
  | used (phase : Phase) (data : ChanData)
deriving DecidableEq, Repr

/-- The transfer on the export link (R162; log 20): closed; the transfer of the block in flight; a status header, with its
bytes still to be clocked; or one that carries nothing, opened by a pull that was ignored. -/
inductive Transfer
  | closed
  | block
  | header (rest : List Byte)
  | nothing
deriving DecidableEq, Repr

/-- The link record and the two page channels (R161, R168). `transfer` is the transfer that is open, `owed` the bytes of the
block in flight not yet clocked, and `out` the bytes driven in the transfer opened last (R162; log 20). -/
structure Link where
  state : LinkState
  time : Nat
  lastServed : Option Channel
  halts : Nat
  ex0 : Chan
  ex1 : Chan
  transfer : Transfer
  owed : List Byte
  out : List Byte
deriving DecidableEq, Repr

/-! ### Control ports (10_control_ports_and_formats.md) -/

/-- Status codes (00_scope.md, R193). QUEUE_FULL is an acceptance byte and never in a reply. -/
inductive Status
  | ok
  | accepted
  | unknownRequest
  | badLength
  | badArgument
  | busy
  | tryAgain
  | notHolder
  | noPicture
  | noPage
  | inView
  | wrongState
  | storeFull
  | queueFull
deriving DecidableEq, Repr

/-- A request message; its argument length is the length of `args` (R191). -/
structure Request where
  tag : Byte
  code : Byte
  args : List Byte
deriving DecidableEq, Repr

/-- A reply message (R191). -/
structure Reply where
  tag : Byte
  status : Status
  results : List Byte
deriving DecidableEq, Repr

/-- A request slot with its contents (R179). -/
inductive Slot
  | free
  | waiting (r : Request)
  | executing (r : Request)
  | replied (r : Reply)
deriving DecidableEq, Repr

/-- Cause of a failed reservation (R129). -/
inductive FailCause
  | stalled
  | cancelled
deriving DecidableEq, Repr

/-- Cause of a skipped capture (R133). -/
inductive SkipCause
  | duplicate
  | storeFull
  | busy
  | noPicture
  | gone
deriving DecidableEq, Repr

/-- Cause of a feed state change (R87). -/
inductive FeedCause
  | sensePresent
  | senseLost
  | modeChange
  | started
deriving DecidableEq, Repr

/-- Cause of a lesson state change (R149). -/
inductive LessonCause
  | start
  | pause
  | resume
  | end_
  | clear
  | drained
deriving DecidableEq, Repr

/-- Cause of a handover (R115). -/
inductive TenancyCause
  | claim
  | autoClaim
  | preempted
  | idle
  | singleUse
  | release
  | portReset
deriving DecidableEq, Repr

/-- The thirteen notices with their arguments (R193 and the rules named there). -/
inductive Notice
  | pageStored (slot : SlotId) (serial : Nat) (origin : Origin) (trigger : Trigger) (frame : Word)
  | captureFailed (slot : SlotId) (serial : Nat) (origin : Origin) (cause : FailCause)
  | captureSkipped (trigger : Trigger) (cause : SkipCause) (frame : Word)
  | pageDiscarded (slot : SlotId) (serial : Nat) (port : Port)
  | intakeStalled (frame : Word) (completed : Bool)
  | intakeResumed (frame : Word)
  | feedState (new old : FeedState) (mode : OutputMode) (cause : FeedCause)
  | feedFault (area : FeedArea) (buffer : BufId) (line : Nat)
  | lessonState (new old : LessonState) (number time : Nat) (cause : LessonCause)
  | exportDone (channel : Channel) (slot : SlotId) (serial : Nat) (scope : Scope) (total : Nat) (requester : Port)
  | exportHalted (cause : HaltCause) (block : Option Block)
  | viewGranted (previous : Option Port) (holdFast singleUse : Bool) (cause : TenancyCause)
  | viewLost (cause : TenancyCause) (holder : Port)
deriving DecidableEq, Repr

/-- The item a FETCH returns (R182): the reply in a slot, the oldest notice, or none. -/
inductive FetchItem
  | reply (slot : Fin 4)
  | notice
  | none
deriving DecidableEq, Repr

/-- A FETCH transaction in progress (R182; log 10, log 11): the item chosen, the bytes it is driven as, how many have
been clocked, whether a notice was dropped at the port since the choice, whether the item still waits to be removed,
and whether this transaction has removed it. -/
structure Fetch where
  item : FetchItem
  image : List Byte
  sent : Nat
  dropped : Bool
  live : Bool
  taken : Bool
deriving DecidableEq, Repr

/-- A transaction that is not a FETCH, in progress (R180, R191; log 10): selected, with no byte clocked yet; a WRITE whose
message so far is `sofar`; a WRITE whose last argument byte has been received, with its acceptance byte and the bytes clocked
since; or a transaction that the port ignores. -/
inductive Writing
  | opened
  | message (sofar : List Byte)
  | answered (status : Status) (clocked : Nat)
  | ignored
deriving DecidableEq, Repr

/-- What one block has answered to the PART_READ that a port hands on (R189; log 27). -/
structure BlockAnswer where
  block : SummaryBlock
  bytes : List Byte
deriving DecidableEq, Repr

/-- One control port (R179), the transaction in progress at it (a FETCH in `fetch`, any other in `write`), the bytes it drove
in its latest transaction (log 10) and the blocks' answers to the PART_READ it hands on (log 27). -/
structure PortRec where
  present : Bool
  slots : Vector Slot 4
  order : List (Fin 4)
  notices : List Notice
  lost : Bool
  mask : BitVec 5
  fetch : Option Fetch
  write : Option Writing
  driven : List Byte
  answers : List BlockAnswer
deriving DecidableEq, Repr

/-- The three port records (R179). -/
structure Ports where
  panel : PortRec
  desk : PortRec
  recorder : PortRec
deriving DecidableEq, Repr

/-- The parameters shared by all ports (R187); NOTICE_MASK is in each port. -/
structure Params where
  stallLimit : Nat
  clarityGain : Nat
  clarityCore : Nat
  exposureTarget : Nat
  exposureDeadband : Nat
  motionHigh : Nat
  motionLow : Nat
  settleFrames : Nat
  rankOrder : Nat
  yieldDelay : Nat
  holdFastLimit : Nat
  pageTurnCapture : Bool
  duplicateLimit : Nat
  timedInterval : Nat
  exportTimeout : Nat
  readyCount : Nat
  readyAge : Nat
deriving DecidableEq, Repr

/-! ### The whole part -/

/-- The state of the part. `mem` is the frame memory in canonical form, `timer` the microsecond timer (section 2.2), and
`pending` the queue of commands that are waiting, first in first out (log 18). -/
structure State where
  mem : List Host.Cell
  timer : Word
  pool : Pool
  intake : Intake
  light : Light
  motion : Motion
  view : View
  feed : Feed
  tenancy : Tenancy
  store : Store
  lesson : Lesson
  timeline : Timeline
  link : Link
  params : Params
  ports : Ports
  pending : List Instr
deriving DecidableEq, Repr

/-- Why the machine stops with a fault. -/
inductive Fault
  /-- Raised by SENSOR_LINE_END, SENSOR_FRAME_END and the opening of an EXPORT_PULL for an access to an address at or above
  536,870,912, which R1 says does not exist. Safe: the part makes no such access (log 28). -/
  | noSuchAddress (address : Nat)
deriving DecidableEq, Repr

/-- Why the machine refuses a command. -/
inductive Refusal
  /-- Raised by a refused arm of exec only. Safe: a claim about the command cannot be proved. -/
  | notModelled (mnemonic : String)
deriving DecidableEq, Repr

/-! ### Updates of one field, named -/

/-- `s` with another frame memory. -/
def State.withMem (s : State) (x : List Host.Cell) : State := { s with mem := x }
/-- `s` with another microsecond timer. -/
def State.withTimer (s : State) (x : Word) : State := { s with timer := x }
/-- `s` with another pool. -/
def State.withPool (s : State) (x : Pool) : State := { s with pool := x }
/-- `s` with another intake record. -/
def State.withIntake (s : State) (x : Intake) : State := { s with intake := x }
/-- `s` with another light control record. -/
def State.withLight (s : State) (x : Light) : State := { s with light := x }
/-- `s` with another motion meter. -/
def State.withMotion (s : State) (x : Motion) : State := { s with motion := x }
/-- `s` with another view unit. -/
def State.withView (s : State) (x : View) : State := { s with view := x }
/-- `s` with another feed record. -/
def State.withFeed (s : State) (x : Feed) : State := { s with feed := x }
/-- `s` with another tenancy record. -/
def State.withTenancy (s : State) (x : Tenancy) : State := { s with tenancy := x }
/-- `s` with another page store. -/
def State.withStore (s : State) (x : Store) : State := { s with store := x }
/-- `s` with another lesson record. -/
def State.withLesson (s : State) (x : Lesson) : State := { s with lesson := x }
/-- `s` with another timeline. -/
def State.withTimeline (s : State) (x : Timeline) : State := { s with timeline := x }
/-- `s` with another export link unit. -/
def State.withLink (s : State) (x : Link) : State := { s with link := x }
/-- `s` with other parameters. -/
def State.withParams (s : State) (x : Params) : State := { s with params := x }
/-- `s` with other port records. -/
def State.withPorts (s : State) (x : Ports) : State := { s with ports := x }
/-- `s` with another command queue. -/
def State.withPending (s : State) (x : List Instr) : State := { s with pending := x }

/-! ### Reset, block by block -/

/-- The pool after reset (R16). -/
def Pool.reset : Pool :=
  { buffers := Vector.ofFn fun b : Fin 24 => { role := if b.val < 3 then .ring else .free, pins := 0, complete := none }
    ring := [0, 1, 2] }

/-- The intake unit after reset (R36). -/
def Intake.reset : Intake :=
  { state := .seeking, stalled := false, writeBuffer := none, startCount := 0, lineCount := 0, pixelCount := 0
    lineOpen := false, frameEnd := false, lastStart := none, lastInterval := none, profile := .picture
    gain := 16, core := 2, setExposure := 128, setLamp := 6, sums := List.replicate Config.thumbCells 0
    sinceCompletion := 0, lastCompleted := 0, completed := false, skipped := 0, malformed := 0
    above := [], held := [], incoming := [] }

/-- The light control unit after reset (R38, R48, R55). -/
def Light.reset : Light :=
  { mode := .auto, e := 128, manual := 128, stalled := false, last := none, setLevel := 6, applied := 6, auto := true
    darkRun := 0, brightRun := 0, period := 2083, onTime := 1249, controlLine := 128, lampHigh := true, pulse := 0
    trainTime := 0, reports := [] }

/-- The motion meter after reset (R56). -/
def Motion.reset : Motion :=
  { previous := none, score := none, detector := .watching, settle := 0, reports := [] }

/-- Both view records after reset (R81). -/
def ViewRec.reset : ViewRec :=
  { source := .camera, frozen := false, page := none, target := 100, glide := 0, cx := 1920, cy := 1440
    blank := false, author := none }

/-- The view unit after reset (R81). -/
def View.reset : View :=
  { staged := ViewRec.reset, active := ViewRec.reset, zoom := 100
    camera := { x0 := 0, y0 := 240, w := 3840, h := 2400, d := 2, step := 98304 }
    pageArea := none, held := none, moved := false }

/-- An area that shows black for want of a state, with no pin (R101). -/
def Area.reset : Area := { pin := none, showing := .blackState, fault := none }

/-- The feed after reset, for the level of the projector sense line when the reset ends (R101). -/
def Feed.reset (sense : Bool) : Feed :=
  { state := if sense then .starting else .detached, mode := .mode1, sense := sense, starting := 0, frames := 0
    first := Area.reset, second := Area.reset, faults := 0 }

/-- The tenancy record after reset (R119). -/
def Tenancy.reset : Tenancy :=
  { holder := none, holdFast := false, singleUse := false, idle := 0, waiters := [] }

/-- The page store after reset (R142). -/
def Store.reset : Store :=
  { pages := Vector.replicate 20 .empty, list := [], lastSerial := 0, reports := [] }

/-- The lesson record after reset (R160). -/
def Lesson.reset : Lesson :=
  { state := .idle, number := 0, hundredths := 0, seconds := 0, minutes := 0, hours := 0, ticks := 0, timed := 0 }

/-- The timeline after reset (R160). -/
def Timeline.reset : Timeline := { entries := [], gap := 0, nextSeq := 0, ms := 0 }

/-- The export link unit after reset (R178). -/
def Link.reset : Link :=
  { state := .ready, time := 0, lastServed := none, halts := 0, ex0 := .idle, ex1 := .idle, transfer := .closed
    owed := [], out := [] }

/-- The parameters after reset (R187). -/
def Params.reset : Params :=
  { stallLimit := 30, clarityGain := 24, clarityCore := 4, exposureTarget := 128, exposureDeadband := 6
    motionHigh := 24, motionLow := 6, settleFrames := 8, rankOrder := 0, yieldDelay := 5000, holdFastLimit := 120
    pageTurnCapture := false, duplicateLimit := 4, timedInterval := 0, exportTimeout := 100, readyCount := 32
    readyAge := 2000 }

/-- A port after reset, for the level of its presence line when the reset ends (R190). -/
def PortRec.reset (present : Bool) : PortRec :=
  { present := present, slots := Vector.replicate 4 .free, order := [], notices := [], lost := false, mask := 31
    fetch := none, write := none, driven := [], answers := [] }

/-- The part right after reset: every block at its reset state, frame memory with nothing listed, no command waiting.
DESIGN CHOICE (log 1): the three presence lines are present and the projector sense line is absent. -/
def State.reset : State :=
  { mem := [], timer := 0, pool := Pool.reset, intake := Intake.reset, light := Light.reset, motion := Motion.reset
    view := View.reset, feed := Feed.reset false, tenancy := Tenancy.reset, store := Store.reset
    lesson := Lesson.reset, timeline := Timeline.reset, link := Link.reset, params := Params.reset
    ports := { panel := PortRec.reset true, desk := PortRec.reset true, recorder := PortRec.reset true }
    pending := [] }

end Sys2Proof.Machine
end

