-- ==== Sys2Proof/Machine/Clock.lean ====
section
/-! DEFINITION. Clock: the lamp pulse train and the microsecond timer (R36, R48), for the two events of the train and for a
microsecond that passes while no command waits (log 3).
-/
namespace Sys2Proof.Machine

/-- The moment, counted from the frame start, at which the next pulse begins (R48). -/
def Light.nextPulse (l : Light) : Nat := (l.pulse + 1) * l.period

/-- The moment, counted from the frame start, at which the on-time of the pulse in progress runs out (R48). -/
def Light.onEnd (l : Light) : Nat := l.pulse * l.period + l.onTime

/-- The train at the beginning of its next pulse (R48). -/
def Light.beginPulse (l : Light) : Light :=
  { l with pulse := l.pulse + 1, trainTime := l.nextPulse, lampHigh := decide (l.onTime ≠ 0) }

/-- The train at the end of the on-time of its pulse (R48). -/
def Light.endOnTime (l : Light) : Light := { l with trainTime := l.onEnd, lampHigh := false }

/-- The line falls inside the pulse: it is high and the on-time is shorter than the period (R48). -/
def Light.fallDue (l : Light) : Bool := l.lampHigh && decide (l.onTime < l.period)

/-- The train one microsecond later (R48). -/
def Light.microsecond (l : Light) : Light :=
  if l.nextPulse ≤ l.trainTime + 1 then
    { l with pulse := l.pulse + 1, trainTime := l.trainTime + 1, lampHigh := decide (l.onTime ≠ 0) }
  else { l with trainTime := l.trainTime + 1, lampHigh := l.lampHigh && decide (l.trainTime + 1 < l.onEnd) }

/-- The timer and the train at a moment of the train (log 3). -/
def State.atMoment (s : State) (l : Light) : State :=
  (s.withTimer (s.timer + BitVec.ofNat 32 (l.trainTime - s.light.trainTime))).withLight l

/-- One microsecond passes: the timer counts it and the lamp line follows its train (R36, R48; log 3). -/
def State.microsecond (s : State) : State := (s.withTimer (s.timer + 1)).withLight s.light.microsecond

/-- LAMP_PULSE_START: the next pulse of the train begins and the lamp line goes high, or stays low at level 0 (R48). -/
def execLampPulseStart (s : State) : Host.Outcome State Fault Refusal := .next (s.atMoment s.light.beginPulse)

/-- LAMP_ON_TIME_END: the on-time runs out and the lamp line goes low; at level 10 or with the line low already there is
no such event (R48; log 4). -/
def execLampOnTimeEnd (s : State) : Host.Outcome State Fault Refusal :=
  .next (if s.light.fallDue then s.atMoment s.light.endOnTime else s)

end Sys2Proof.Machine
end

