-- ==== Sys2Proof/Machine/Memory.lean ====
section
/-! DEFINITION. Memory: the frame memory of R1 as a list of cells in canonical form, addresses strictly rising and no cell
equal to what an unlisted address reads as, with the reads and writes of the frame memory port.
-/
namespace Sys2Proof.Machine

/-- Every address of `m` is at or above `lo`, the addresses rise strictly, no cell holds the unlisted value, and every
address exists. -/
def Memory.wfFrom (lo : Nat) : List Host.Cell → Bool
  | [] => true
  | (a, v) :: rest =>
    decide (lo ≤ a ∧ a < Config.memorySize ∧ v ≠ Config.unwritten) && Memory.wfFrom (a + 1) rest

/-- The canonical form of the frame memory. -/
def Memory.wf (m : List Host.Cell) : Bool := Memory.wfFrom 0 m

/-- The byte at an address (R1). -/
def Memory.read : List Host.Cell → Nat → Byte
  | [], _ => Config.unwritten
  | (b, v) :: rest, a => if a = b then v else if a < b then Config.unwritten else Memory.read rest a

/-- `m` with one byte written; the canonical form is kept. -/
def Memory.write : List Host.Cell → Nat → Byte → List Host.Cell
  | [], a, v => if v = Config.unwritten then [] else [(a, v)]
  | (b, x) :: rest, a, v =>
    if a = b then (if v = Config.unwritten then rest else (a, v) :: rest)
    else if a < b then (if v = Config.unwritten then (b, x) :: rest else (a, v) :: (b, x) :: rest)
    else (b, x) :: Memory.write rest a v

/-- `m` with a run of bytes written from address `a` upward. -/
def Memory.writeList (m : List Host.Cell) (a : Nat) : List Byte → List Host.Cell
  | [] => m
  | v :: rest => Memory.writeList (Memory.write m a v) (a + 1) rest

/-- The address of byte `offset` of line `y` of buffer `b` (R1). -/
def Memory.address (b : BufId) (y offset : Nat) : Nat :=
  Config.bufferSize * b.val + Config.lineSize * y + offset

/-- The first of the addresses that does not exist, if any (R1; log 28). -/
def Memory.missing (addresses : List Nat) : Option Nat :=
  addresses.find? fun a => decide (Config.memorySize ≤ a)

end Sys2Proof.Machine
end

