-- ==== Sys2Proof/Machine/Operands.lean ====
section
/-! DEFINITION. Operands: the byte layouts of section 10.10. How argument bytes are read, the codes of the enumerated fields
(R193 and the chapters), the request codes with the lengths they allow (R192), and the bytes of notices, replies, export
block headers, page headers and timeline entries (R191, R194, R195).
-/
namespace Sys2Proof.Machine

/-! ### Reading argument bytes (00_scope.md, Multi-byte fields) -/

/-- Argument byte `i`; the length check of R192 is made before any use. -/
def argByte (args : List Byte) (i : Nat) : Nat := (args.getD i 0).toNat

/-- The two-byte unsigned field at `i`, most significant byte first. -/
def argU16 (args : List Byte) (i : Nat) : Nat := 256 * argByte args i + argByte args (i + 1)

/-- The two-byte signed field at `i`, in two's complement. -/
def argS16 (args : List Byte) (i : Nat) : Int :=
  if argU16 args i < 32768 then (argU16 args i : Int) else (argU16 args i : Int) - 65536

/-- The four-byte unsigned field at `i`, most significant byte first. -/
def argU32 (args : List Byte) (i : Nat) : Nat := 65536 * argU16 args i + argU16 args (i + 2)

/-- `x` replaced by the nearer end of the range `lo`–`hi` when it lies outside (00_scope.md, Arithmetic). -/
def clampNat (lo hi x : Nat) : Nat := if x < lo then lo else if hi < x then hi else x

/-- An integer clamped to the range `lo`–`hi` of naturals. -/
def clampInt (lo hi : Nat) (x : Int) : Nat := if x < lo then lo else if (hi : Int) < x then hi else x.toNat

/-- A page slot named by a byte, if it lies in 0–19. -/
def slotOf (n : Nat) : Option SlotId := if h : n < 20 then some ⟨n, h⟩ else none

/-! ### Writing fields -/

/-- One byte. -/
def byte1 (n : Nat) : Byte := BitVec.ofNat 8 n

/-- Two bytes, most significant first. -/
def be16 (n : Nat) : List Byte := [byte1 (n / 256), byte1 n]

/-- Four bytes, most significant first. -/
def be32 (n : Nat) : List Byte := [byte1 (n / 16777216), byte1 (n / 65536), byte1 (n / 256), byte1 n]

/-- A flag byte, 1 for set or present (R196). -/
def flag1 (b : Bool) : Byte := if b then 1 else 0

/-! ### Codes -/

/-- A port's code: 1 panel, 2 desk, 3 recorder (R196). -/
def portNumber : Port → Nat
  | .panel => 1
  | .desk => 2
  | .recorder => 3

/-- A port or none, 0 for none (R196). -/
def portCode : Option Port → Nat
  | none => 0
  | some p => portNumber p

/-- Status codes (R193). -/
def Status.code : Status → Nat
  | .ok => 0x00
  | .accepted => 0x01
  | .unknownRequest => 0x02
  | .badLength => 0x03
  | .badArgument => 0x04
  | .busy => 0x05
  | .tryAgain => 0x06
  | .notHolder => 0x07
  | .noPicture => 0x08
  | .noPage => 0x09
  | .inView => 0x0A
  | .wrongState => 0x0B
  | .storeFull => 0x0C
  | .queueFull => 0x0D

/-- Intake state (R193). -/
def IntakeState.code : IntakeState → Nat
  | .seeking => 0
  | .receiving => 1

/-- Clarity profile (R193). -/
def Profile.code : Profile → Nat
  | .off => 0
  | .text => 1
  | .picture => 2
  | .custom => 3

/-- The profile an argument byte names, if any (R33, R193). -/
def Profile.ofCode : Nat → Option Profile
  | 0 => some .off
  | 1 => some .text
  | 2 => some .picture
  | 3 => some .custom
  | _ => none

/-- Exposure mode (R193). -/
def ExposureMode.code : ExposureMode → Nat
  | .auto => 0
  | .hold => 1
  | .manual => 2

/-- The exposure mode an argument byte names, if any (R43, R193). -/
def ExposureMode.ofCode : Nat → Option ExposureMode
  | 0 => some .auto
  | 1 => some .hold
  | 2 => some .manual
  | _ => none

/-- Detector state (R193). -/
def Detector.code : Detector → Nat
  | .watching => 0
  | .moving => 1
  | .settling => 2

/-- Source (R193). -/
def Source.code : Source → Nat
  | .camera => 0
  | .page => 1
  | .split => 2

/-- The source an argument byte names, if any (R65, R193). -/
def Source.ofCode : Nat → Option Source
  | 0 => some .camera
  | 1 => some .page
  | 2 => some .split
  | _ => none

/-- Feed state (R193). -/
def FeedState.code : FeedState → Nat
  | .detached => 0
  | .starting => 1
  | .running => 2

/-- FEED_STATE cause (R193). -/
def FeedCause.code : FeedCause → Nat
  | .sensePresent => 1
  | .senseLost => 2
  | .modeChange => 3
  | .started => 4

/-- Output mode (R82). -/
def OutputMode.code : OutputMode → Nat
  | .mode0 => 0
  | .mode1 => 1
  | .mode2 => 2

/-- The output mode an argument byte names, if any (R88). -/
def OutputMode.ofCode : Nat → Option OutputMode
  | 0 => some .mode0
  | 1 => some .mode1
  | 2 => some .mode2
  | _ => none

/-- Area showing (R193). -/
def Showing.code : Showing → Nat
  | .picture => 0
  | .blackState => 1
  | .blackBlank => 2
  | .blackNoFrame => 3
  | .blackFault => 4

/-- The area in FEED_FAULT (R100). -/
def areaCode : FeedArea → Nat
  | .full => 0
  | .left => 1
  | .right => 2

/-- Origin of a page (R120). -/
def Origin.code : Origin → Nat
  | .auto => 0
  | .port p => portNumber p

/-- The port a timeline entry lays a capture to: none for AUTO (R126). -/
def Origin.port? : Origin → Option Port
  | .auto => none
  | .port p => some p

/-- Trigger of a capture (R120). -/
def Trigger.code : Trigger → Nat
  | .manual => 1
  | .timed => 2
  | .pageTurn => 3

/-- Cause of a skipped capture (R133). -/
def SkipCause.code : SkipCause → Nat
  | .duplicate => 1
  | .storeFull => 2
  | .busy => 3
  | .noPicture => 4
  | .gone => 5

/-- Cause of a failed reservation (R129). -/
def FailCause.code : FailCause → Nat
  | .stalled => 1
  | .cancelled => 2

/-- Lesson state (R193). -/
def LessonState.code : LessonState → Nat
  | .idle => 0
  | .running => 1
  | .paused => 2
  | .closing => 3

/-- Cause of a lesson state change (R149). -/
def LessonCause.code : LessonCause → Nat
  | .start => 1
  | .pause => 2
  | .resume => 3
  | .end_ => 4
  | .clear => 5
  | .drained => 6

/-- Cause of a handover (R115). -/
def TenancyCause.code : TenancyCause → Nat
  | .claim => 1
  | .autoClaim => 2
  | .preempted => 3
  | .idle => 4
  | .singleUse => 5
  | .release => 6
  | .portReset => 7

/-- Kind of a timeline entry (R152). -/
def EntryKind.code : EntryKind → Nat
  | .lessonStarted => 1
  | .lessonPaused => 2
  | .lessonResumed => 3
  | .lessonEnded => 4
  | .pageCaptured => 5
  | .captureSkipped => 6
  | .pageDiscarded => 7
  | .pageShown => 8
  | .liveShown => 9
  | .freezeOn => 10
  | .freezeOff => 11
  | .blankOn => 12
  | .blankOff => 13
  | .viewChanged => 14
  | .tenantChanged => 15
  | .gap => 16

/-- Page channel number: 0 for EX0, 1 for EX1 (R164). -/
def channelCode : Channel → Nat
  | .ex0 => 0
  | .ex1 => 1

/-- The page channel an argument byte names, if any (R171). -/
def channelOfCode : Nat → Option Channel
  | 0 => some .ex0
  | 1 => some .ex1
  | _ => none

/-- Channel of a block: 2 for the timeline channel (R164). -/
def blockChannelCode : Option Channel → Nat
  | some c => channelCode c
  | none => 2

/-- Halt cause (R161). -/
def HaltCause.code : HaltCause → Nat
  | .timeout => 1
  | .linkError => 2
  | .linkDown => 3
  | .memory => 4

/-- Scope (R171). -/
def Scope.code : Scope → Nat
  | .full => 0
  | .window => 1

/-- The scope an argument byte names, if any (R171). -/
def Scope.ofCode : Nat → Option Scope
  | 0 => some .full
  | 1 => some .window
  | _ => none

/-- Export mode (R171). -/
def ExportMode.code : ExportMode → Nat
  | .burst => 0
  | .interleaved => 1

/-- The export mode an argument byte names, if any (R171). -/
def ExportMode.ofCode : Nat → Option ExportMode
  | 0 => some .burst
  | 1 => some .interleaved
  | _ => none

/-- Page channel state (R193). -/
def Chan.stateCode : Chan → Nat
  | .idle => 0
  | .used .active _ => 1
  | .used .stopping _ => 2
  | .used .stopped _ => 3
  | .used .halted _ => 4
  | .used .done _ => 5

/-- Export link state (R193). -/
def LinkState.code : LinkState → Nat
  | .ready => 0
  | .delivering _ => 1
  | .halted _ => 2

/-- Page record state (R193). -/
def PageRec.stateCode : PageRec → Nat
  | .empty => 0
  | .reserved _ _ => 1
  | .stored _ _ => 2
  | .discarding _ _ _ => 3

/-! ### Request codes and lengths (R192) -/

/-- The least and the greatest argument length a request code allows; none for a code that names no request. -/
def requestLengths (code : Nat) : Option (Nat × Nat) :=
  match code with
  | 0x01 => some (0, 0)
  | 0x02 => some (5, 5)
  | 0x03 => some (1, 1)
  | 0x04 => some (0, 0)
  | 0x10 => some (3, 3)
  | 0x11 => some (0, 0)
  | 0x12 => some (0, 0)
  | 0x13 => some (0, 0)
  | 0x20 => some (3, 3)
  | 0x21 => some (3, 3)
  | 0x22 => some (4, 4)
  | 0x23 => some (4, 4)
  | 0x24 => some (4, 4)
  | 0x25 => some (0, 0)
  | 0x26 => some (0, 0)
  | 0x27 => some (0, 0)
  | 0x28 => some (0, 0)
  | 0x29 => some (0, 0)
  | 0x30 => some (1, 1)
  | 0x31 => some (3, 3)
  | 0x32 => some (2, 2)
  | 0x33 => some (0, 0)
  | 0x38 => some (1, 1)
  | 0x39 => some (0, 0)
  | 0x40 => some (1, 28)
  | 0x41 => some (3, 3)
  | 0x42 => some (3, 28)
  | 0x43 => some (1, 1)
  | 0x44 => some (2, 2)
  | 0x50 => some (0, 0)
  | 0x51 => some (0, 0)
  | 0x52 => some (0, 0)
  | 0x53 => some (0, 0)
  | 0x54 => some (0, 0)
  | 0x55 => some (0, 0)
  | 0x60 => some (6, 6)
  | 0x61 => some (1, 1)
  | 0x62 => some (1, 1)
  | 0x63 => some (0, 0)
  | 0x64 => some (0, 0)
  | _ => none

/-- The argument length is one the request allows (R181, R192). -/
def lengthAllowed (r : Request) : Bool :=
  match requestLengths r.code.toNat with
  | some (lo, hi) => decide (lo ≤ r.args.length ∧ r.args.length ≤ hi)
  | none => false

/-- The code names a request (R181, R192). -/
def codeKnown (code : Byte) : Bool := (requestLengths code.toNat).isSome

/-! ### Labels -/

/-- A byte is printable if it lies in 20h–7Eh (R120). -/
def printable (b : Byte) : Bool := decide (0x20 ≤ b.toNat ∧ b.toNat ≤ 0x7E)

/-- The label kept of a text: its first 24 bytes (R124, R136). -/
def labelKept (text : List Byte) : List Byte := text.take 24

/-! ### Notices (R193 and the rules that define each) -/

/-- Notice kind code (R193). -/
def Notice.kindCode : Notice → Nat
  | .pageStored _ _ _ _ _ => 0x01
  | .captureFailed _ _ _ _ => 0x02
  | .captureSkipped _ _ _ => 0x03
  | .pageDiscarded _ _ _ => 0x04
  | .intakeStalled _ _ => 0x10
  | .intakeResumed _ => 0x11
  | .feedState _ _ _ _ => 0x20
  | .feedFault _ _ _ => 0x21
  | .lessonState _ _ _ _ _ => 0x30
  | .exportDone _ _ _ _ _ _ => 0x40
  | .exportHalted _ _ => 0x41
  | .viewGranted _ _ _ _ => 0x50
  | .viewLost _ _ => 0x51

/-- The bit of NOTICE_MASK a notice's class has: PAGES 0, INTAKE 1, FEED 2, LESSON 3, EXPORT 4; none for the tenancy
notices, which have no class (R183, R187). -/
def Notice.classBit : Notice → Option Nat
  | .pageStored _ _ _ _ _ => some 0
  | .captureFailed _ _ _ _ => some 0
  | .captureSkipped _ _ _ => some 0
  | .pageDiscarded _ _ _ => some 0
  | .intakeStalled _ _ => some 1
  | .intakeResumed _ => some 1
  | .feedState _ _ _ _ => some 2
  | .feedFault _ _ _ => some 2
  | .lessonState _ _ _ _ _ => some 3
  | .exportDone _ _ _ _ _ _ => some 4
  | .exportHalted _ _ => some 4
  | .viewGranted _ _ _ _ => none
  | .viewLost _ _ => none

/-- Argument bytes of a notice (R87, R100, R116, R126, R129, R133, R134, R149, R166, R172, R193). -/
def Notice.argBytes : Notice → List Byte
  | .pageStored slot serial origin trigger frame =>
    [byte1 slot.val] ++ be16 serial ++ [byte1 origin.code, byte1 trigger.code] ++ be32 frame.toNat
  | .captureFailed slot serial origin cause =>
    [byte1 slot.val] ++ be16 serial ++ [byte1 origin.code, byte1 cause.code]
  | .captureSkipped trigger cause frame => [byte1 trigger.code, byte1 cause.code] ++ be32 frame.toNat
  | .pageDiscarded slot serial port => [byte1 slot.val] ++ be16 serial ++ [byte1 (portNumber port)]
  | .intakeStalled frame completed => be32 frame.toNat ++ [flag1 completed]
  | .intakeResumed frame => be32 frame.toNat
  | .feedState new old mode cause => [byte1 new.code, byte1 old.code, byte1 mode.code, byte1 cause.code]
  | .feedFault area buffer line => [byte1 (areaCode area), byte1 buffer.val] ++ be16 line
  | .lessonState new old number time cause =>
    [byte1 new.code, byte1 old.code] ++ be16 number ++ be32 time ++ [byte1 cause.code]
  | .exportDone channel slot serial scope total requester =>
    [byte1 (channelCode channel), byte1 slot.val] ++ be16 serial ++ [byte1 scope.code] ++ be32 total ++ [byte1 (portNumber requester)]
  | .exportHalted cause (some block) => [byte1 cause.code, byte1 (blockChannelCode block.channel)] ++ be32 block.index
  | .exportHalted cause none => [byte1 cause.code, 255] ++ be32 0
  | .viewGranted previous holdFast singleUse cause =>
    [byte1 (portCode previous), flag1 holdFast, flag1 singleUse, byte1 cause.code]
  | .viewLost cause holder => [byte1 cause.code, byte1 (portNumber holder)]

/-- A notice as a FETCH drives it: item type, kind, lost flag, argument length, arguments (R182, R191). -/
def noticeImage (n : Notice) (lost : Bool) : List Byte :=
  [0x02, byte1 n.kindCode, flag1 lost, byte1 n.argBytes.length] ++ n.argBytes

/-- A reply as a FETCH drives it: item type, tag, status, result length, results (R182, R191). -/
def replyImage (r : Reply) : List Byte :=
  [0x01, r.tag, byte1 r.status.code, byte1 r.results.length] ++ r.results

/-! ### Timeline entries (R195) -/

/-- The 20 bytes of an entry. -/
def Entry.bytes (e : Entry) : List Byte :=
  be16 e.seq.toNat ++ be32 e.time ++ [byte1 e.what.kind.code, byte1 (portCode e.what.port)]
    ++ [byte1 ((if e.what.page.isSome then 1 else 0) + (if e.what.view.isSome then 2 else 0))]
    ++ (match e.what.page with
        | some r => [byte1 r.slot.val] ++ be16 r.serial
        | none => [0, 0, 0])
    ++ (match e.what.view with
        | some v => be16 v.zoom ++ be16 v.cx ++ be16 v.cy
        | none => [0, 0, 0, 0, 0, 0])
    ++ be16 e.what.extra

/-! ### Export blocks (R194) -/

/-- Kind of a block header (R194). -/
def BlockKind.code : BlockKind → Nat
  | .pageHeader => 1
  | .pageData => 2
  | .timeline => 3

/-- The 16-byte block header (R194). -/
def blockHeader (kind channel lesson serial slot : Nat) (last : Bool) (index length count : Nat) : List Byte :=
  [byte1 kind, byte1 channel] ++ be16 lesson ++ be16 serial ++ [byte1 slot, flag1 last] ++ be32 index ++ be16 length
    ++ be16 count

/-- Bytes of a stream of scope WINDOW or FULL (R169). -/
def streamLength (scope : Scope) (w h : Nat) : Nat :=
  match scope with
  | .full => Config.bufferSize
  | .window => w * h * 2

/-- Number N of data blocks: the stream length divided by 8192, rounded up (R169). -/
def dataBlocks (scope : Scope) (w h : Nat) : Nat :=
  ((Config.blockSize - 1) + streamLength scope w h) / Config.blockSize

/-- The page header payload (R170, R194). -/
def pageHeader (slot : SlotId) (tag : PageTag) (data : PageData) (scope : Scope) : List Byte :=
  let size := match scope with
    | .full => (Config.framePixels, Config.frameLines)
    | .window => (data.w, data.h)
  be16 tag.serial ++ [byte1 slot.val, byte1 tag.origin.code, byte1 tag.trigger.code]
    ++ (match data.lesson with
        | some l => [1] ++ be16 l.number ++ be32 l.time
        | none => [0] ++ be16 0 ++ be32 0)
    ++ be16 data.zoom ++ be16 data.x0 ++ be16 data.y0 ++ be16 data.w ++ be16 data.h
    ++ [byte1 data.gain, byte1 data.core, byte1 data.exposure, byte1 data.lamp, byte1 scope.code]
    ++ be16 size.1 ++ be16 size.2 ++ be32 (dataBlocks scope data.w data.h) ++ [byte1 tag.label.length]
    ++ tag.label ++ data.thumb

/-- The address of byte `t` of a page channel's stream (R1, R169). -/
def streamAddress (d : ChanData) (t : Nat) : Nat :=
  match d.scope with
  | .full => Memory.address d.buffer 0 t
  | .window => Memory.address d.buffer (d.y0 + t / (2 * d.w)) (2 * d.x0 + t % (2 * d.w))

/-- The addresses of data block `k`, 1 to N: bytes (k − 1) × 8192 onward of the stream, 8192 of them or as many as
remain (R169). -/
def blockAddresses (d : ChanData) (k : Nat) : List Nat :=
  let start := Config.blockSize * (k - 1)
  let length := min Config.blockSize (streamLength d.scope d.w d.h - start)
  (List.range length).map fun t => streamAddress d (start + t)

end Sys2Proof.Machine
end

