-- ==== Sys2Proof/Machine/Flags.lean ====
section
/-! DEFINITION. Flags: the conditions the spec computes from State and keeps nowhere: the attention line, rank and standing,
thresholds, the naming of a page, the readiness of the timeline channel, and the lesson time.
-/
namespace Sys2Proof.Machine

/-! ### Control ports -/

/-- The slot holds a reply waiting to be fetched (R179). -/
def Slot.isReplied : Slot → Bool
  | .replied _ => true
  | _ => false

/-- The slot is EXECUTING (R179). -/
def Slot.isExecuting : Slot → Bool
  | .executing _ => true
  | _ => false

/-- The slot is FREE (R179). -/
def Slot.isFree : Slot → Bool
  | .free => true
  | _ => false

/-- The request of a WAITING slot (R179). -/
def Slot.waiting? : Slot → Option Request
  | .waiting r => some r
  | _ => none

/-- The request of an EXECUTING slot (R179). -/
def Slot.executing? : Slot → Option Request
  | .executing r => some r
  | _ => none

/-- A FETCH in progress that has removed its item (R179: the line falls at the end of that transaction; log 12). -/
def PortRec.removing (r : PortRec) : Bool :=
  match r.fetch with
  | some f => f.taken
  | none => false

/-- The attention line of a port (R179; log 12). -/
def PortRec.attention (r : PortRec) : Bool :=
  (List.finRange 4).any (fun k => (r.slots[k]).isReplied) || !r.notices.isEmpty || r.removing

/-- The port's mask leaves the notice out; a tenancy notice is never left out (R183, R187). -/
def Notice.masked (n : Notice) (mask : BitVec 5) : Bool :=
  match n.classBit with
  | some b => !mask.getLsbD b
  | none => false

/-! ### Tenancy -/

/-- The ports in the order RANK_ORDER names (R103). -/
def rankList : Nat → List Port
  | 0 => [.panel, .desk, .recorder]
  | 1 => [.panel, .recorder, .desk]
  | 2 => [.desk, .panel, .recorder]
  | 3 => [.desk, .recorder, .panel]
  | 4 => [.recorder, .panel, .desk]
  | _ => [.recorder, .desk, .panel]

/-- `p` stands earlier than `q` in the rank order (R103). -/
def outranks (order : Nat) (p q : Port) : Bool :=
  decide ((rankList order).idxOf p < (rankList order).idxOf q)

/-- The wait set with its entries in rank order (R107). -/
def rankSort (order : Nat) (ws : List Waiter) : List Waiter :=
  (rankList order).filterMap fun q => ws.find? fun w => decide (w.port = q)

/-- The holder's idle threshold in milliseconds, if it has one (R109). -/
def Tenancy.threshold (t : Tenancy) (params : Params) : Option Nat :=
  if t.holdFast then
    if params.holdFastLimit = 0 then none else some (max params.yieldDelay (1000 * params.holdFastLimit))
  else some params.yieldDelay

/-- The idle time is at or above the holder's threshold (R108, R109). -/
def Tenancy.idleDue (t : Tenancy) (params : Params) : Bool :=
  match t.threshold params with
  | some limit => decide (limit ≤ t.idle)
  | none => false

/-- The handover condition that holds, in the order of R111, with its cause. -/
def Tenancy.due (t : Tenancy) (params : Params) : Option TenancyCause :=
  match t.holder, t.waiters with
  | some h, w :: _ =>
    if outranks params.rankOrder w.port h && !t.holdFast then some .preempted
    else if t.idleDue params then some .idle
    else none
  | _, _ => none

/-- The place of a port in the wait set, 1 or 2, and 0 when it has none (R106). -/
def Tenancy.position (t : Tenancy) (p : Port) : Nat :=
  match t.waiters.findIdx? fun w => decide (w.port = p) with
  | some i => i + 1
  | none => 0

/-- A port's standing: 1 holding, 2 waiting, 0 neither (R106). -/
def Tenancy.standing (t : Tenancy) (p : Port) : Nat :=
  if t.holder = some p then 1 else if t.position p = 0 then 0 else 2

/-! ### View and page store -/

/-- A view record names the page: its source is PAGE or SPLIT and its page has that slot and serial (R59). -/
def ViewRec.names (v : ViewRec) (r : PageRef) : Bool := decide (v.source ≠ .camera ∧ v.page = some r)

/-- The view unit's answer to the page store's question (R59). -/
def View.named (v : View) (r : PageRef) : Bool := v.staged.names r || v.active.names r

/-- The serial a record holds, in RESERVED, STORED or DISCARDING (R120). -/
def PageRec.serial? : PageRec → Option Nat
  | .empty => none
  | .reserved tag _ => some tag.serial
  | .stored tag _ => some tag.serial
  | .discarding tag _ _ => some tag.serial

/-! ### Lesson and timeline -/

/-- The lesson time in centiseconds (R143). -/
def Lesson.time (l : Lesson) : Nat := 360000 * l.hours + 6000 * l.minutes + 100 * l.seconds + l.hundredths

/-- The unsealed entries, oldest first (R156). -/
def Timeline.unsealed (t : Timeline) : List Entry := t.entries.filter fun e => !e.isSealed

/-- The age of the oldest unsealed entry, if there is one (R156). -/
def Timeline.age (t : Timeline) : Option Nat := t.unsealed.head?.map fun e => (t.ms - e.arrival).toNat

/-- The timeline channel is ready (R176). -/
def timelineReady (t : Timeline) (lesson : LessonState) (params : Params) : Bool :=
  match t.age with
  | none => false
  | some age =>
    decide (params.readyCount ≤ t.unsealed.length) || decide (params.readyAge ≤ age) || decide (lesson = .closing)

/-! ### Sensor frames -/

/-- A later frame number: the difference, modulo 4,294,967,296, lies in 1 to 2,147,483,647 (R128). -/
def follows (frame after : Word) : Bool :=
  decide (1 ≤ (frame - after).toNat ∧ (frame - after).toNat ≤ 2147483647)

/-- The count has reached the stall limit while no stall stands (R27). -/
def Intake.stallDue (i : Intake) (params : Params) : Bool :=
  !i.stalled && decide (params.stallLimit ≤ i.sinceCompletion)

end Sys2Proof.Machine
end

