-- ==== Sys2Proof/Machine/Pool.lean ====
section
/-! DEFINITION. Pool: the buffer pool's own operations (01_frame_memory_and_buffer_pool.md). Taking, refilling, choosing a
write buffer, marking complete, releasing and pinning, each on the pool alone.
-/
namespace Sys2Proof.Machine

/-- The record of buffer `b` (R2). -/
def Pool.bufRec (p : Pool) (b : BufId) : BufRec := p.buffers[b]

/-- The pool with another record for buffer `b`. -/
def Pool.setRec (p : Pool) (b : BufId) (r : BufRec) : Pool := { p with buffers := p.buffers.set b r }

/-- The complete flag of buffer `b` (R2). -/
def Pool.isComplete (p : Pool) (b : BufId) : Bool := (p.bufRec b).complete.isSome

/-- The newest complete buffer: the last complete buffer of the ring list (section 1.4). -/
def Pool.newest (p : Pool) : Option BufId := (p.ring.filter p.isComplete).getLast?

/-- The lowest-numbered FREE buffer (R6). -/
def Pool.lowestFree (p : Pool) : Option BufId :=
  (List.finRange 24).find? fun b => decide ((p.bufRec b).role = .free)

/-- Buffer `b` joins the front of the ring, not complete (R5, R6). -/
def Pool.joinRing (p : Pool) (b : BufId) : Pool :=
  { p.setRec b { p.bufRec b with role := .ring, complete := none } with ring := b :: p.ring }

/-- Refill after a take: the lowest-numbered FREE buffer joins a ring of fewer than 3 (R6). -/
def Pool.refill (p : Pool) : Pool :=
  if p.ring.length < 3 then
    match p.lowestFree with
    | some b => p.joinRing b
    | none => p
  else p

/-- Buffer `b` becomes FREE, its complete flag cleared, and joins a ring of fewer than 3 at once (R6, R11, R13). -/
def Pool.setFree (p : Pool) (b : BufId) : Pool :=
  let q := p.setRec b { p.bufRec b with role := .free, complete := none }
  if q.ring.length < 3 then q.joinRing b else q

/-- The pool's answer to a take (R9). -/
inductive TakeAnswer
  | noFrame
  | gone
  | ringShort
  | given (buffer : BufId) (info : FrameMeta)
deriving DecidableEq, Repr

/-- Buffer `b` leaves the ring for `role`, keeping pins, flag and metadata, and the ring is refilled (R6, R9). -/
def Pool.give (p : Pool) (b : BufId) (role : Role) : Pool :=
  Pool.refill { p.setRec b { p.bufRec b with role := role } with ring := p.ring.erase b }

/-- A newest take (R9). -/
def Pool.takeNewest (p : Pool) (role : Role) : TakeAnswer × Pool :=
  match p.newest with
  | none => (.noFrame, p)
  | some b =>
    match (p.bufRec b).complete with
    | none => (.noFrame, p)
    | some info => if p.ring.length ≤ 2 then (.ringShort, p) else (.given b info, p.give b role)

/-- A reported take of buffer `b` holding frame `frame` (R9). -/
def Pool.takeReported (p : Pool) (b : BufId) (frame : Word) (role : Role) : TakeAnswer × Pool :=
  match (p.bufRec b).complete with
  | none => (.gone, p)
  | some info =>
    if (p.bufRec b).role = .ring ∧ info.frame = frame then
      if p.ring.length ≤ 2 then (.ringShort, p) else (.given b info, p.give b role)
    else (.gone, p)

/-- The buffer a frame start is given: the first of the ring with pin count 0 that is not the newest complete (R7). -/
def Pool.writeChoice (p : Pool) : Option BufId :=
  p.ring.find? fun b => decide ((p.bufRec b).pins = 0 ∧ p.newest ≠ some b)

/-- Buffer `b` is chosen as write buffer: its flag is cleared and it moves to the front (R5, R7). -/
def Pool.chooseWrite (p : Pool) (b : BufId) : Pool :=
  { p.setRec b { p.bufRec b with complete := none } with ring := b :: p.ring.erase b }

/-- Buffer `b` is marked complete with its metadata and moves to the back (R5, R8). -/
def Pool.markComplete (p : Pool) (b : BufId) (info : FrameMeta) : Pool :=
  { p.setRec b { p.bufRec b with complete := some info } with ring := p.ring.erase b ++ [b] }

/-- The owner of a HELD or PAGE buffer releases it: FREE with pin count 0, RETIRING otherwise (R11). -/
def Pool.release (p : Pool) (b : BufId) : Pool :=
  if (p.bufRec b).pins = 0 then p.setFree b else p.setRec b { p.bufRec b with role := .retiring }

/-- A reader takes a pin on buffer `b` (R12). -/
def Pool.pin (p : Pool) (b : BufId) : Pool := p.setRec b { p.bufRec b with pins := (p.bufRec b).pins + 1 }

/-- A reader releases a pin on buffer `b`; a RETIRING buffer whose last pin goes becomes FREE (R12, R13). -/
def Pool.unpin (p : Pool) (b : BufId) : Pool :=
  let q := p.setRec b { p.bufRec b with pins := (p.bufRec b).pins - 1 }
  if (q.bufRec b).pins = 0 ∧ (q.bufRec b).role = .retiring then q.setFree b else q

/-- The number of FREE buffers PART_READ reports (R5). -/
def Pool.freeCount (p : Pool) : Nat :=
  ((List.finRange 24).filter fun b => decide ((p.bufRec b).role = .free)).length

end Sys2Proof.Machine
end

