-- ==== Sys2Proof/Machine/Ops.lean ====
section
/-! DEFINITION. Ops: the operations over the whole state that several families of commands share: the port records, posting
a notice, offering a timeline entry, releasing a pin, a tenancy handover with its evaluation, the gate, and carrying out
one request.
-/
namespace Sys2Proof.Machine

/-! ### Port records (R179) -/

/-- The record of port `p`. -/
def Ports.get (ps : Ports) : Port → PortRec
  | .panel => ps.panel
  | .desk => ps.desk
  | .recorder => ps.recorder

/-- The records with another one for port `p`. -/
def Ports.set (ps : Ports) (p : Port) (r : PortRec) : Ports :=
  match p with
  | .panel => { ps with panel := r }
  | .desk => { ps with desk := r }
  | .recorder => { ps with recorder := r }

/-- The record of port `p`. -/
def State.port (s : State) (p : Port) : PortRec := s.ports.get p

/-- The state with another record for port `p`. -/
def State.setPort (s : State) (p : Port) (r : PortRec) : State := s.withPorts (s.ports.set p r)

/-! ### Notices (R183) -/

/-- One port takes a posted notice (R183). -/
def PortRec.take (r : PortRec) (n : Notice) : PortRec :=
  if r.present = false then r
  else if n.masked r.mask then r
  else if Config.noticeRoom ≤ r.notices.length then
    { r with lost := true, fetch := r.fetch.map fun f => { f with dropped := true } }
  else { r with notices := r.notices ++ [n] }

/-- A notice posted to one port (R116, R183). -/
def State.post (s : State) (p : Port) (n : Notice) : State := s.setPort p ((s.port p).take n)

/-- A notice posted to every port, less the one left out, if any; each port's mask decides (R183). -/
def State.postAll (s : State) (n : Notice) (leftOut : Option Port) : State :=
  let one := fun p => if leftOut = some p then s.port p else (s.port p).take n
  s.withPorts { panel := one .panel, desk := one .desk, recorder := one .recorder }

/-! ### The timeline (R152–R155) -/

/-- An entry appended, or counted as lost when the list is full (R152, R153, R155). -/
def Timeline.append (t : Timeline) (time : Nat) (o : Offer) : Timeline :=
  if t.entries.length < Config.timelineRoom then
    { t with
      entries := t.entries ++ [{ seq := t.nextSeq, time := time, what := o, isSealed := false, arrival := t.ms }]
      nextSeq := t.nextSeq + 1 }
  else { t with gap := min 65535 (t.gap + 1) }

/-- The newest entry, if an offered entry is to be coalesced into it (R154). -/
def Timeline.mergesInto (t : Timeline) (time : Nat) (o : Offer) : Option Entry :=
  match t.entries.getLast? with
  | some e =>
    if o.kind = .viewChanged ∧ e.what.kind = .viewChanged ∧ e.what.port = o.port ∧ e.isSealed = false
        ∧ time - e.time ≤ 100 then some e else none
  | none => none

/-- An offered entry as the timeline takes it (R153, R154). -/
def Timeline.offer (t : Timeline) (state : LessonState) (time : Nat) (o : Offer) : Timeline :=
  if state = .running then
    match t.mergesInto time o with
    | some e =>
      { t with entries := t.entries.dropLast ++
          [{ e with time := time, what := { e.what with page := o.page, view := o.view } }] }
    | none => t.append time o
  else t

/-- An entry offered by a block (R153). -/
def State.offer (s : State) (o : Offer) : State :=
  s.withTimeline (s.timeline.offer s.lesson.state s.lesson.time o)

/-- An offer with neither part. -/
def plainOffer (kind : EntryKind) (port : Option Port) (extra : Nat) : Offer :=
  { kind := kind, port := port, page := none, view := none, extra := extra }

/-! ### Pins (R12, R13, R135) -/

/-- The DISCARDING record whose buffer is `b`, with what its notice names (R135). -/
def Store.discardingOf (st : Store) (b : BufId) : Option (SlotId × Nat × Port) :=
  (List.finRange 20).findSome? fun k =>
    match st.pages[k] with
    | .discarding tag data by_ => if data.buffer = b then some (k, tag.serial, by_) else none
    | _ => none

/-- The store with another record in slot `k`. -/
def Store.setPage (st : Store) (k : SlotId) (r : PageRec) : Store := { st with pages := st.pages.set k r }

/-- The page store is told that the pin count of PAGE buffer `b` has reached 0 (R13, R135). -/
def State.pinsGone (s : State) (b : BufId) : State :=
  match s.store.discardingOf b with
  | some (k, serial, by_) =>
    ((s.withStore (s.store.setPage k .empty)).withPool (s.pool.release b)).postAll (.pageDiscarded k serial by_) none
  | none => s

/-- A reader releases its pin on buffer `b` (R12, R13). -/
def State.unpin (s : State) (b : BufId) : State :=
  let s1 := s.withPool (s.pool.unpin b)
  if (s1.pool.bufRec b).pins = 0 ∧ (s1.pool.bufRec b).role = .page then s1.pinsGone b else s1

/-- A reader that may hold no pin releases the one it holds. -/
def State.unpin? (s : State) : Option BufId → State
  | some b => s.unpin b
  | none => s

/-- A reader pins buffer `b` (R12). -/
def State.pin (s : State) (b : BufId) : State := s.withPool (s.pool.pin b)

/-! ### Tenancy (R104–R118) -/

/-- Effects 1 to 3 of a handover: the new record with idle time 0, the staged zoom target at the active zoom current,
and the TENANT_CHANGED entry (R115). The notices differ and are posted by the caller (R116). -/
def State.handover (s : State) (t : Tenancy) (cause : TenancyCause) : State :=
  ((s.withTenancy { t with idle := 0 }).withView
      { s.view with staged := { s.view.staged with target := s.view.zoom } }).offer
    (plainOffer .tenantChanged t.holder (256 * portCode s.tenancy.holder + cause.code))

/-- The view passes to the best waiter, which receives VIEW_GRANTED; the old holder receives VIEW_LOST where the view is
taken from it (R107, R115, R116). -/
def State.grantBest (s : State) (cause : TenancyCause) (tellOld : Bool) : State :=
  match s.tenancy.waiters with
  | [] => s
  | w :: rest =>
    let s1 := s.handover { holder := some w.port, holdFast := w.holdFast, singleUse := w.singleUse, idle := 0,
                           waiters := rest } cause
    let s2 := match s.tenancy.holder with
      | some old => if tellOld then s1.post old (.viewLost cause w.port) else s1
      | none => s1
    s2.post w.port (.viewGranted s.tenancy.holder w.holdFast w.singleUse cause)

/-- The evaluation of the handover conditions, at most `fuel` handovers (R111). -/
def State.evaluate : Nat → State → State
  | 0, s => s
  | fuel + 1, s =>
    match s.tenancy.due s.params with
    | some cause => State.evaluate fuel (s.grantBest cause true)
    | none => s

/-- The evaluation, to its end: each handover removes a wait entry (R111). -/
def State.settle (s : State) : State := State.evaluate s.tenancy.waiters.length s

/-- The holder lets the view go: to the best waiter, or to no port (R112, R118). -/
def State.passOn (s : State) (cause : TenancyCause) : State :=
  match s.tenancy.waiters with
  | [] => s.handover { holder := none, holdFast := false, singleUse := false, idle := 0, waiters := [] } cause
  | _ :: _ => (s.grantBest cause false).settle

/-- The record without a wait entry for port `p` (R113, R118). -/
def Tenancy.without (t : Tenancy) (p : Port) : Tenancy :=
  { t with waiters := t.waiters.filter fun w => decide (w.port ≠ p) }

/-- A port reset as the tenancy unit takes it (R118). -/
def State.tenancyReset (s : State) (p : Port) : State :=
  if s.tenancy.holder = some p then s.passOn .portReset else s.withTenancy (s.tenancy.without p)

/-- The check of a gated request: the state in which it is carried out, or none for NOT_HOLDER (R104, R105). -/
def State.passTenancy (s : State) (p : Port) : Option State :=
  match s.tenancy.holder with
  | none => some (s.handover { holder := some p, holdFast := false, singleUse := false, idle := 0, waiters := [] } .autoClaim)
  | some h => if h = p then some (s.withTenancy { s.tenancy with idle := 0 }) else none

/-- The step after a gated request of a single-use holder (R110). -/
def State.singleUseStep (s : State) : State :=
  if s.tenancy.singleUse = true ∧ s.tenancy.waiters ≠ [] then (s.grantBest .singleUse true).settle else s

/-! ### Port reset (R184) -/

/-- A port record after a port reset that keeps slot `keep`, if any (R184, R185; log 11). -/
def PortRec.cleared (r : PortRec) (keep : Option (Fin 4)) : PortRec :=
  { r with
    slots := Vector.ofFn fun k => if keep = some k then r.slots[k] else .free
    order := r.order.filter fun k => decide (keep = some k)
    notices := [], lost := false, mask := 31, answers := []
    fetch := r.fetch.map fun f => { f with live := false, taken := false } }

/-- A port reset, in the order of R184. -/
def State.portReset (s : State) (p : Port) (keep : Option (Fin 4)) : State :=
  (s.setPort p ((s.port p).cleared keep)).tenancyReset p

/-! ### Carrying out a request (R181; log 7) -/

/-- The request a port hands on: the one EXECUTING, else the oldest WAITING, with its slot (R181). -/
def PortRec.current (r : PortRec) : Option (Fin 4 × Request) :=
  match r.order.findSome? fun k => (r.slots[k]).executing?.map fun q => (k, q) with
  | some x => some x
  | none => r.order.findSome? fun k => (r.slots[k]).waiting?.map fun q => (k, q)

/-- The oldest WAITING slot becomes EXECUTING when none is (R181). -/
def PortRec.handOn (r : PortRec) : PortRec :=
  if (List.finRange 4).any fun k => (r.slots[k]).isExecuting then r
  else
    match r.order.findSome? fun (k : Fin 4) => (r.slots[k]).waiting?.map fun q => (k, q) with
    | some (k, q) => { r with slots := r.slots.set k (.executing q) }
    | none => r

/-- A reply placed in a slot, and the next request handed on (R181). -/
def PortRec.placeReply (r : PortRec) (k : Fin 4) (reply : Reply) : PortRec :=
  PortRec.handOn { r with slots := r.slots.set k (.replied reply) }

/-- What a request comes to: the state it leaves, its status and its results. -/
structure Answer where
  state : State
  status : Status
  results : List Byte
deriving DecidableEq, Repr

/-- An answer with no results. -/
def Answer.plain (s : State) (status : Status) : Answer := { state := s, status := status, results := [] }

/-- An answer with status OK. -/
def Answer.ok (s : State) (results : List Byte) : Answer := { state := s, status := .ok, results := results }

/-- The reply to request `q` of port `p` in slot `k` (R181). -/
def State.reply (s : State) (p : Port) (k : Fin 4) (q : Request) (status : Status) (results : List Byte) : State :=
  s.setPort p ((s.port p).placeReply k { tag := q.tag, status := status, results := results })

/-- The request has the given code. -/
def Request.hasCode (q : Request) (code : Nat) : Bool := q.code.toNat == code

/-- One request of port `p` carried out, if the request handed on is one that is `meant`: its length is checked, it is
served, and its reply placed (R181). Without such a request nothing happens (log 4). -/
def State.serve (s : State) (p : Port) (meant : Request → Bool) (body : Request → State → Answer) : State :=
  match (s.port p).current with
  | none => s
  | some (k, q) =>
    if meant q then
      if lengthAllowed q then (body q s).state.reply p k q (body q s).status (body q s).results
      else s.reply p k q .badLength []
    else s

/-- A gated request: the check, the execution and the single-use step as one (R104, R110). -/
def State.gated (p : Port) (body : Request → State → Answer) (q : Request) (s : State) : Answer :=
  match s.passTenancy p with
  | none => Answer.plain s .notHolder
  | some s1 => { body q s1 with state := (body q s1).state.singleUseStep }

/-- A request code that is not gated, served. -/
def serveOpen (code : Nat) (p : Port) (body : Request → State → Answer) (s : State) :
    Host.Outcome State Fault Refusal :=
  .next (s.serve p (fun q => q.hasCode code) body)

/-- A gated request code, served. -/
def serveGated (code : Nat) (p : Port) (body : Request → State → Answer) (s : State) :
    Host.Outcome State Fault Refusal :=
  .next (s.serve p (fun q => q.hasCode code) (State.gated p body))

end Sys2Proof.Machine
end

