-- ==== Sys2Proof/Machine/Light.lean ====
section
/-! DEFINITION. Light: the light control unit at a frame start, at a frame report and at a stall, and its two requests
(03_exposure_lamp_and_motion.md, sections 3.2 to 3.6).
-/
namespace Sys2Proof.Machine

/-! ### Frame start (R37, R47, R48) -/

/-- The period after an interval (R47). -/
def periodAfter (period : Nat) (interval : Option Word) : Nat :=
  match interval with
  | some i => if 20000 ≤ i.toNat ∧ i.toNat ≤ 200000 then i.toNat / 16 else period
  | none => period

/-- The light control unit at a frame start (R37). -/
def Light.frameStart (l : Light) (interval : Option Word) : Light :=
  let period := periodAfter l.period interval
  let onTime := period * l.setLevel / 10
  { l with
    period := period, applied := l.setLevel, controlLine := l.e, onTime := onTime
    lampHigh := decide (onTime ≠ 0), pulse := 0, trainTime := 0 }

/-! ### Frame reports (R39, R40, R42, R46) -/

/-- The sum of the cells of one thumbnail row from column `first`, `count` of them. -/
def rowSum (thumb : List Byte) (row first count : Nat) : Nat :=
  (((thumb.drop (row * 64 + first)).take count).map BitVec.toNat).sum

/-- The meter mean and cell count of a thumbnail in a camera window (R39). -/
def meterOf (thumb : List Byte) (win : Window) : Meter :=
  let col := win.x0 / 60
  let columns := (win.x0 + win.w - 1) / 60 - col + 1
  let row := win.y0 / 60
  let rows := (win.y0 + win.h - 1) / 60 - row + 1
  let total := ((List.range rows).map fun j => rowSum thumb (row + j) col columns).sum
  { mean := total / (columns * rows), cells := columns * rows }

/-- The exposure step for a mean (R40). -/
def exposureStep (target deadband mean : Nat) : Int :=
  let e := (target : Int) - (mean : Int)
  if e.natAbs ≤ deadband then 0 else max (-4) (min 4 (e.tdiv 8))

/-- E is at its top and the set level may rise (R46). -/
def Light.tooDark (l : Light) : Bool := decide (l.e = 255 ∧ l.setLevel < 10)

/-- E is at its bottom and the set level may fall (R46). -/
def Light.tooBright (l : Light) : Bool := decide (l.e = 0 ∧ 1 < l.setLevel)

/-- Auto lamp after the exposure step of a report (R46). -/
def Light.autoLamp (l : Light) : Light :=
  if l.auto && decide (l.mode = .auto) then
    if l.tooDark then
      if 30 ≤ l.darkRun + 1 then { l with darkRun := 0, brightRun := 0, setLevel := l.setLevel + 1 }
      else { l with darkRun := l.darkRun + 1, brightRun := 0 }
    else if l.tooBright then
      if 30 ≤ l.brightRun + 1 then { l with darkRun := 0, brightRun := 0, setLevel := l.setLevel - 1 }
      else { l with darkRun := 0, brightRun := l.brightRun + 1 }
    else { l with darkRun := 0, brightRun := 0 }
  else { l with darkRun := 0, brightRun := 0 }

/-- The exposure loop's move for a report (R39, R40). -/
def Light.expose (l : Light) (r : Report) (win : Window) (params : Params) : Light :=
  let meter := meterOf r.thumb win
  { l with
    e := clampInt 0 255 ((l.e : Int) + exposureStep params.exposureTarget params.exposureDeadband meter.mean)
    last := some meter }

/-- A frame report processed by the light control unit (R40, R42, R46). -/
def Light.report (l : Light) (r : Report) (win : Window) (params : Params) : Light :=
  if l.stalled then { l with darkRun := 0, brightRun := 0 }
  else
    match l.mode with
    | .auto => (l.expose r win params).autoLamp
    | .hold => l.autoLamp
    | .manual => l.autoLamp

/-- The report makes a run reach 30, so auto lamp moves the set level (R46). -/
def Light.stepDue (l : Light) (r : Report) (win : Window) (params : Params) : Bool :=
  decide ((l.report r win params).setLevel ≠ l.setLevel)

/-- LIGHT_FRAME_REPORT: the oldest report in transit is processed (R40; log 9). -/
def State.lightReport (s : State) : State :=
  match s.light.reports with
  | [] => s
  | r :: rest => s.withLight { s.light.report r s.view.camera s.params with reports := rest }

/-- The oldest report in transit would make auto lamp act (R46). -/
def State.lampStepDue (s : State) : Bool :=
  match s.light.reports with
  | [] => false
  | r :: _ => s.light.stepDue r s.view.camera s.params

/-! ### Stall (R42) -/

/-- The stall event at the light control unit (R42). -/
def Light.stall (l : Light) : Light := { l with stalled := true, darkRun := 0, brightRun := 0 }

/-- The stall's end at the light control unit (R42). -/
def Light.resume (l : Light) : Light :=
  { l with stalled := false, e := if l.mode = .manual then l.manual else l.e }

/-! ### Requests (R43, R45) -/

/-- The runs after a change of mode: cleared when it is to or from AUTO (R43). -/
def Light.withMode (l : Light) (mode : ExposureMode) : Light :=
  if decide (l.mode = .auto) = decide (mode = .auto) then { l with mode := mode }
  else { l with mode := mode, darkRun := 0, brightRun := 0 }

/-- The results of SET_EXPOSURE (R43). -/
def Light.exposureResults (l : Light) : List Byte := [byte1 l.e, byte1 l.manual]

/-- SET_EXPOSURE at the light control unit (R43). -/
def State.setExposure (s : State) (q : Request) : Answer :=
  match ExposureMode.ofCode (argByte q.args 0) with
  | none => .plain s .badArgument
  | some .manual =>
    let value := clampInt 0 255 (argS16 q.args 1)
    let l := { s.light.withMode .manual with manual := value, e := if s.light.stalled then s.light.e else value }
    .ok (s.withLight l) l.exposureResults
  | some mode => .ok (s.withLight (s.light.withMode mode)) (s.light.withMode mode).exposureResults

/-- SET_LAMP at the light control unit (R45). -/
def State.setLamp (s : State) (q : Request) : Answer :=
  if 1 < argByte q.args 1 then .plain s .badArgument
  else
    let level := clampNat 0 10 (argByte q.args 0)
    let auto := decide (argByte q.args 1 = 1)
    if level = s.light.setLevel ∧ auto = s.light.auto then .ok s [byte1 level]
    else .ok (s.withLight { s.light with setLevel := level, auto := auto, darkRun := 0, brightRun := 0 }) [byte1 level]

/-! ### Meanings -/

/-- SET_EXPOSURE (R43). -/
def execSetExposure (p : Port) (s : State) : Host.Outcome State Fault Refusal :=
  serveGated 0x31 p (fun q s => s.setExposure q) s

/-- SET_LAMP (R45). -/
def execSetLamp (p : Port) (s : State) : Host.Outcome State Fault Refusal :=
  serveGated 0x32 p (fun q s => s.setLamp q) s

/-- LIGHT_FRAME_REPORT (R40). -/
def execLightFrameReport (s : State) : Host.Outcome State Fault Refusal := .next s.lightReport

/-- AUTO_LAMP_STEP: a report that makes a run reach 30 (R46; log 5). -/
def execAutoLampStep (s : State) : Host.Outcome State Fault Refusal :=
  .next (if s.lampStepDue then s.lightReport else s)

end Sys2Proof.Machine
end

