-- ==== Sys2Proof/Machine/Clarity.lean ====
section
/-! DEFINITION. Clarity: the clarity filter (02_intake_and_page_clarity.md, section 2.7) and the thumbnail arithmetic of
R34, R49 and R132.
-/
namespace Sys2Proof.Machine

/-- Gain and core a profile names, with the parameters that CUSTOM takes (R32). -/
def Profile.values (p : Profile) (params : Params) : Nat × Nat :=
  match p with
  | .off => (0, 0)
  | .text => (40, 6)
  | .picture => (16, 2)
  | .custom => (params.clarityGain, params.clarityCore)

/-- Left neighbour, sample and right neighbour at one place of a line. -/
structure Triple where
  left : Nat
  centre : Nat
  right : Nat
deriving DecidableEq, Repr

/-- The triples of the rest of a line, given the sample before it; the last sample is its own right neighbour (R30). -/
def triplesFrom (before : Nat) : List Nat → List Triple
  | [] => []
  | [x] => [⟨before, x, x⟩]
  | x :: y :: rest => ⟨before, x, y⟩ :: triplesFrom x (y :: rest)

/-- The triples of a line; the first sample is its own left neighbour (R30). -/
def triples : List Nat → List Triple
  | [] => []
  | x :: rest => triplesFrom x (x :: rest)

/-- The blur of a 3 × 3 neighbourhood (R30). -/
def blur (above own below : Triple) : Nat :=
  (above.left + 2 * above.centre + above.right
    + 2 * own.left + 4 * own.centre + 2 * own.right
    + below.left + 2 * below.centre + below.right + 8) / 16

/-- Coring of a detail (R31). -/
def coring (core : Nat) (detail : Int) : Int :=
  if detail.natAbs ≤ core then 0 else if 0 < detail then detail - core else detail + core

/-- The sharpened luma of a sample with its blur (R31). -/
def sharpen (gain core luma blurred : Nat) : Byte :=
  let cored := coring core ((luma : Int) - (blurred : Int))
  let boost := ((gain : Int) * cored + 8) / 16
  byte1 (clampInt 0 255 ((luma : Int) + boost))

/-- The luma samples of a line (R17). -/
def lineLuma : List Pair → List Nat
  | [] => []
  | p :: rest => p.y0.toNat :: p.y1.toNat :: lineLuma rest

/-- The sharpened luma of a line between its neighbours (R30, R31). -/
def sharpenedLuma (gain core : Nat) (above own below : List Pair) : List Byte :=
  List.zipWith (fun a (ob : Triple × Triple) => sharpen gain core ob.1.centre (blur a ob.1 ob.2))
    (triples (lineLuma above)) ((triples (lineLuma own)).zip (triples (lineLuma below)))

/-- The bytes of a line in the pair layout of R1, from its sharpened luma and its own chroma (R31). -/
def lineBytes : List Byte → List Pair → List Byte
  | a :: b :: luma, p :: rest => a :: p.cb :: b :: p.cr :: lineBytes luma rest
  | _, _ => []

/-- The bytes written for a line (R21, R31). -/
def sharpenedLine (gain core : Nat) (above own below : List Pair) : List Byte :=
  lineBytes (sharpenedLuma gain core above own below) own

/-- The thumbnail cell of pixel `x` of line `y` (R34). -/
def thumbCell (x y : Nat) : Nat := y / 60 * 64 + x / 60

/-- The thumbnail of a frame from its sums (R34). -/
def thumbnail (sums : List Nat) : List Byte := sums.map fun s => byte1 ((1800 + s) / 3600)

/-- Mean magnitude of the difference of two thumbnails, rounded down (R49, R132). -/
def thumbDifference (a b : List Byte) : Nat :=
  (List.zipWith (fun (x y : Byte) => ((x.toNat : Int) - (y.toNat : Int)).natAbs) a b).sum / Config.thumbCells

end Sys2Proof.Machine
end

