-- ==== Sys2Proof/Machine/Motion.lean ====
section
/-! DEFINITION. Motion: the motion meter and its page-turn detector (03_exposure_lamp_and_motion.md, section 3.7).
-/
namespace Sys2Proof.Machine

/-- Where a score moves the detector, with the settle count and the fire mark (R50). -/
def Detector.move (d : Detector) (settle score : Nat) (params : Params) : Detector × Nat × Bool :=
  match d with
  | .watching => if params.motionHigh ≤ score then (.moving, 0, false) else (.watching, 0, false)
  | .moving =>
    if params.motionLow ≤ score then (.moving, 0, false)
    else if 1 < params.settleFrames then (.settling, 1, false)
    else (.watching, 0, true)
  | .settling =>
    if params.motionLow ≤ score then (.moving, 0, false)
    else if settle + 1 < params.settleFrames then (.settling, settle + 1, false)
    else (.watching, 0, true)

/-- The previous thumbnail a report finds: the one that ends a stall finds none (R29, R49, R53; log 29). -/
def Motion.found (m : Motion) (endsStall : Bool) : Option (List Byte) := if endsStall then none else m.previous

/-- A report at the motion meter: the meter it leaves and the fire mark (R29, R49, R50, R53). -/
def Motion.report (m : Motion) (r : MeterReport) (params : Params) : Motion × Bool :=
  let thumb := r.report.thumb
  match m.found r.endsStall with
  | none => ({ m with previous := some thumb }, false)
  | some before =>
    let score := thumbDifference thumb before
    let moved := m.detector.move m.settle score params
    ({ m with previous := some thumb, score := some score, detector := moved.1, settle := moved.2.1 }, moved.2.2)

/-- MOTION_FRAME_REPORT: the oldest report in transit is scored and passed on to the page store (R49, R52; log 9). The report that
ends a stall is not scored, also where a report completed before the stall has been taken after it (R29, R53; log 29). -/
def State.motionReport (s : State) : State :=
  match s.motion.reports with
  | [] => s
  | r :: rest =>
    let after := s.motion.report r s.params
    (s.withMotion { after.1 with reports := rest }).withStore
      { s.store with reports := s.store.reports ++ [{ report := r.report, fire := after.2 }] }

/-- The oldest report in transit would fire (R50). -/
def State.fireDue (s : State) : Bool :=
  match s.motion.reports with
  | [] => false
  | r :: _ => (s.motion.report r s.params).2

/-- The stall event at the motion meter (R53). Reports in transit stay in transit: one completed before the stall is taken after
it by R49 and R50, and the report that ends the stall finds no thumbnail of it (log 29). -/
def Motion.stall (m : Motion) : Motion := { m with previous := none, score := none, detector := .watching, settle := 0 }

/-- MOTION_FRAME_REPORT (R49). -/
def execMotionFrameReport (s : State) : Host.Outcome State Fault Refusal := .next s.motionReport

/-- DETECTOR_FIRE: a report that fires (R50; log 5). -/
def execDetectorFire (s : State) : Host.Outcome State Fault Refusal := .next (if s.fireDue then s.motionReport else s)

end Sys2Proof.Machine
end

