-- ==== Sys2Proof/Machine/Pause.lean ====
section
/-! DEFINITION. Pause: the lesson clock's change of state and LESSON_PAUSE (08_lesson_clock_and_timeline.md, section 8.2), which
can come between a timed capture and its timeline entry (R159).
-/
namespace Sys2Proof.Machine

/-- The lesson record replaced, with LESSON_STATE posted for the change of state (R149). -/
def State.changeLesson (s : State) (l : Lesson) (cause : LessonCause) : State :=
  (s.withLesson l).postAll (.lessonState l.state s.lesson.state l.number l.time cause) none

/-- The lesson clock's own entry, appended in any state (R146). -/
def State.appendOwn (s : State) (o : Offer) : State := s.withTimeline (s.timeline.append s.lesson.time o)

/-- The results of a lesson request: state, number, time (section 8.3). -/
def Lesson.results (l : Lesson) : List Byte := [byte1 l.state.code] ++ be16 l.number ++ be32 l.time

/-- An answer of a lesson request, in the state it leaves (section 8.3). -/
def State.lessonAnswer (s : State) (status : Status) : Answer :=
  { state := s, status := status, results := s.lesson.results }

/-- LESSON_PAUSE at the lesson clock (R146, R147). -/
def State.lessonPause (s : State) (p : Port) : Answer :=
  match s.lesson.state with
  | .running =>
    ((s.changeLesson { s.lesson with state := .paused } .pause).appendOwn
      (plainOffer .lessonPaused (some p) 0)).lessonAnswer .ok
  | _ => s.lessonAnswer .wrongState

/-- The LESSON_PAUSE that port `p` hands on, carried out (R147, R181). -/
def State.servePause (s : State) (p : Port) : State := s.serve p (fun q => q.hasCode 0x51) (fun _ s => s.lessonPause p)

/-- A LESSON_PAUSE that meets another event, carried out; none meets it otherwise (R159; log 17). -/
def State.meetPause (s : State) : Option Port → State
  | some p => s.servePause p
  | none => s

end Sys2Proof.Machine
end

