-- ==== Sys2Proof/Machine/Windows.lean ====
section
/-! DEFINITION. Windows: the areas of the output and the window arithmetic of the commit (04_the_view.md, section 4.4).
-/
namespace Sys2Proof.Machine

/-- An integer rounded down to a multiple of 4, toward minus infinity (00_scope.md, Arithmetic). -/
def roundDown4 (x : Int) : Int := x / 4 * 4

/-- Width and height of the full area of a mode (R72, R82). -/
def OutputMode.size : OutputMode → Nat × Nat
  | .mode0 => (1024, 768)
  | .mode1 => (1280, 800)
  | .mode2 => (1920, 1080)

/-- Width and height of each half area of a mode in SPLIT (R72). -/
def OutputMode.halfSize (m : OutputMode) : Nat × Nat := (m.size.1 / 2, m.size.2)

/-- Width and height of the area the camera window is computed for (R72). -/
def cameraArea (m : OutputMode) : Source → Nat × Nat
  | .camera => m.size
  | .page => m.size
  | .split => m.halfSize

/-- Base width w0 (R73, stage 1). -/
def baseWidth (areaW areaH : Nat) : Nat := min 3840 (2880 * areaW / areaH) / 4 * 4

/-- Zoomed width w (R73, stage 2). -/
def windowWidth (areaW areaH zoom : Nat) : Nat := 100 * baseWidth areaW areaH / zoom / 4 * 4

/-- Height h (R73, stage 3). -/
def windowHeight (areaW areaH zoom : Nat) : Nat := windowWidth areaW areaH zoom * areaH / areaW / 4 * 4

/-- Decimation d of a window of width `w` (R75). -/
def decimation (w areaW : Nat) : Nat := if 2 * areaW ≤ w then 2 else 1

/-- Step of a window of width `w`, in 16.16 fixed point (R75). -/
def windowStep (w areaW : Nat) : Nat := 65536 * w / (decimation w areaW * areaW)

/-- The camera window for an area, a zoom and a centre (R73–R75). -/
def cameraWindow (area : Nat × Nat) (zoom cx cy : Nat) : Window :=
  let w := windowWidth area.1 area.2 zoom
  let h := windowHeight area.1 area.2 zoom
  { x0 := clampInt 0 (3840 - w) (roundDown4 ((cx : Int) - ((w / 2 : Nat) : Int)))
    y0 := clampInt 0 (2880 - h) (roundDown4 ((cy : Int) - ((h / 2 : Nat) : Int)))
    w := w, h := h, d := decimation w area.1, step := windowStep w area.1 }

/-- The page-area window of a mode (R76). -/
def pageWindow (m : OutputMode) : Window :=
  let area := m.halfSize
  let w := windowWidth area.1 area.2 100
  let h := windowHeight area.1 area.2 100
  { x0 := (3840 - w) / 2 / 4 * 4, y0 := (2880 - h) / 2 / 4 * 4
    w := w, h := h, d := decimation w area.1, step := windowStep w area.1 }

/-- The next zoom current (R71). -/
def glideStep (current target glide : Nat) : Nat :=
  if glide = 0 then target
  else if current < target then min (current + glide) target
  else max (current - glide) target

end Sys2Proof.Machine
end

