-- ==== Sys2Proof/Machine/View.lean ====
section
/-! DEFINITION. View: the requests to the view unit and the commit (04_the_view.md).
-/
namespace Sys2Proof.Machine

/-- The staged view replaced. -/
def State.withStaged (s : State) (v : ViewRec) : State := s.withView { s.view with staged := v }

/-- The record of slot `k`. -/
def Store.page (st : Store) (k : SlotId) : PageRec := st.pages[k]

/-- The record of slot `k` if it is STORED with the serial given (R65, R139). -/
def Store.storedWith (st : Store) (k : SlotId) (serial : Nat) : Option (PageTag × PageData) :=
  match st.page k with
  | .stored tag data => if tag.serial = serial then some (tag, data) else none
  | _ => none

/-! ### Requests (R60–R69) -/

/-- ZOOM_TO at the view unit (R61). -/
def State.zoomTo (s : State) (p : Port) (q : Request) : Answer :=
  let target := clampNat 100 1600 (argU16 q.args 0)
  let glide := clampNat 0 100 (argByte q.args 2)
  .ok (s.withStaged { s.view.staged with target := target, glide := glide, author := some p })
    (be16 target ++ [byte1 glide])

/-- ZOOM_BY at the view unit (R62). -/
def State.zoomBy (s : State) (p : Port) (q : Request) : Answer :=
  let target := clampInt 100 1600 ((s.view.staged.target : Int) + argS16 q.args 0)
  let glide := clampNat 0 100 (argByte q.args 2)
  .ok (s.withStaged { s.view.staged with target := target, glide := glide, author := some p })
    (be16 target ++ [byte1 glide])

/-- PAN_TO at the view unit (R63). -/
def State.panTo (s : State) (p : Port) (q : Request) : Answer :=
  let cx := clampNat 0 3839 (argU16 q.args 0)
  let cy := clampNat 0 2879 (argU16 q.args 2)
  .ok (s.withStaged { s.view.staged with cx := cx, cy := cy, author := some p }) (be16 cx ++ be16 cy)

/-- PAN_BY at the view unit (R64). -/
def State.panBy (s : State) (p : Port) (q : Request) : Answer :=
  let cx := clampInt 0 3839 ((s.view.staged.cx : Int) + argS16 q.args 0)
  let cy := clampInt 0 2879 ((s.view.staged.cy : Int) + argS16 q.args 2)
  .ok (s.withStaged { s.view.staged with cx := cx, cy := cy, author := some p }) (be16 cx ++ be16 cy)

/-- SET_SOURCE to PAGE or SPLIT (R65). -/
def State.sourcePage (s : State) (p : Port) (source : Source) (slot serial : Nat) : Answer :=
  match slotOf slot with
  | none => .plain s .noPage
  | some k =>
    match s.store.storedWith k serial with
    | none => .plain s .noPage
    | some _ =>
      .ok (s.withStaged { s.view.staged with
            source := source, page := some { slot := k, serial := serial }, author := some p }) []

/-- SET_SOURCE at the view unit (R65). -/
def State.setSource (s : State) (p : Port) (q : Request) : Answer :=
  match Source.ofCode (argByte q.args 0) with
  | none => .plain s .badArgument
  | some .camera => .ok (s.withStaged { s.view.staged with source := .camera, page := none, author := some p }) []
  | some .page => s.sourcePage p .page (argByte q.args 1) (argU16 q.args 2)
  | some .split => s.sourcePage p .split (argByte q.args 1) (argU16 q.args 2)

/-- The frame number of buffer `b` (R2, R66). -/
def Pool.frameOf (pool : Pool) (b : BufId) : Word :=
  match (pool.bufRec b).complete with
  | some info => info.frame
  | none => 0

/-- The frame number of the frozen frame (R66). -/
def State.heldFrame (s : State) : Word :=
  match s.view.held with
  | some b => s.pool.frameOf b
  | none => 0

/-- FREEZE at the view unit (R66). -/
def State.freeze (s : State) (p : Port) : Answer :=
  if s.view.staged.frozen then
    .ok (s.withStaged { s.view.staged with author := some p }) (be32 s.heldFrame.toNat)
  else
    match s.pool.takeNewest .held with
    | (.given b info, pool) =>
      .ok ((s.withPool pool).withView { s.view with
            staged := { s.view.staged with frozen := true, author := some p }, held := some b })
        (be32 info.frame.toNat)
    | (.ringShort, _) => .plain s .tryAgain
    | _ => .plain s .noPicture

/-- The HELD buffer, if any, released to the pool (R11, R67). -/
def State.releaseHeld (s : State) : State :=
  match s.view.held with
  | some b => s.withPool (s.pool.release b)
  | none => s

/-- UNFREEZE at the view unit (R67). -/
def State.unfreeze (s : State) (p : Port) : Answer :=
  if s.view.staged.frozen then
    .ok (s.releaseHeld.withView { s.view with
          staged := { s.view.staged with frozen := false, author := some p }, held := none }) []
  else .ok (s.withStaged { s.view.staged with author := some p }) []

/-- BLANK and UNBLANK at the view unit (R68). -/
def State.setBlank (s : State) (p : Port) (on : Bool) : Answer :=
  .ok (s.withStaged { s.view.staged with blank := on, author := some p }) []

/-- The ten fields of a view record in VIEW_READ (R196). -/
def ViewRec.bytes (v : ViewRec) : List Byte :=
  [byte1 v.source.code, flag1 v.frozen, flag1 v.blank]
    ++ (match v.page with
        | some r => [byte1 r.slot.val] ++ be16 r.serial
        | none => [255, 0, 0])
    ++ be16 v.target ++ [byte1 v.glide] ++ be16 v.cx ++ be16 v.cy ++ [byte1 (portCode v.author)]

/-- A window in VIEW_READ (R196). -/
def Window.bytes (w : Window) : List Byte :=
  be16 w.x0 ++ be16 w.y0 ++ be16 w.w ++ be16 w.h ++ [byte1 w.d] ++ be32 w.step

/-- A buffer number, or 255 for none (R69, R89). -/
def bufferCode : Option BufId → Nat
  | some b => b.val
  | none => 255

/-- The results of VIEW_READ (R69, R196). -/
def View.results (v : View) : List Byte :=
  v.staged.bytes ++ v.active.bytes ++ be16 v.zoom ++ v.camera.bytes
    ++ (match v.pageArea with
        | some w => w.bytes
        | none => List.replicate 13 0)
    ++ [byte1 (bufferCode v.held)]

/-! ### The commit (R70–R79) -/

/-- Two windows cut the same rectangle (R79). -/
def Window.sameRect (a b : Window) : Bool := decide (a.x0 = b.x0 ∧ a.y0 = b.y0 ∧ a.w = b.w ∧ a.h = b.h)

/-- Steps 1 to 4 of the commit, with the moved flag as it stands before VIEW_CHANGED is offered (R70, R79). -/
def View.committed (v : View) (mode : OutputMode) : View :=
  let zoom := glideStep v.zoom v.staged.target v.staged.glide
  let win := cameraWindow (cameraArea mode v.staged.source) zoom v.staged.cx v.staged.cy
  let settled := { v.staged with cx := win.x0 + win.w / 2, cy := win.y0 + win.h / 2 }
  { v with
    staged := settled, active := settled, zoom := zoom, camera := win
    pageArea := if v.staged.source = .split then some (pageWindow mode) else none
    moved := v.moved || !win.sameRect v.camera }

/-- The camera window has moved and the zoom is still, so VIEW_CHANGED is offered (R79). -/
def View.atRest (v : View) : Bool := v.moved && decide (v.zoom = v.active.target)

/-- The view part of the entries of a commit (R78). -/
def View.part (v : View) : ViewPart := { zoom := v.zoom, cx := v.active.cx, cy := v.active.cy }

/-- The entries a commit offers for the change from `old` to `new`, in the order of R78. -/
def commitOffers (old new : View) : List Offer :=
  let who := new.active.author
  (if new.active.source ≠ .camera ∧ (new.active.source ≠ old.active.source ∨ new.active.page ≠ old.active.page) then
      [{ kind := .pageShown, port := who, page := new.active.page, view := some new.part
         extra := new.active.source.code }] else [])
    ++ (if new.active.source = .camera ∧ old.active.source ≠ .camera then
      [{ kind := .liveShown, port := who, page := none, view := some new.part, extra := 0 }] else [])
    ++ (if new.active.frozen && !old.active.frozen then [plainOffer .freezeOn who 0] else [])
    ++ (if !new.active.frozen && old.active.frozen then [plainOffer .freezeOff who 0] else [])
    ++ (if new.active.blank && !old.active.blank then [plainOffer .blankOn who 0] else [])
    ++ (if !new.active.blank && old.active.blank then [plainOffer .blankOff who 0] else [])
    ++ (if new.atRest then
      [{ kind := .viewChanged, port := who, page := if new.active.source = .page then new.active.page else none
         view := some new.part, extra := 0 }] else [])

/-- Entries offered by one block in one event, in their order (R153). -/
def State.offerAll (s : State) (os : List Offer) : State := os.foldl State.offer s

/-- The commit at an output frame start, steps 1 to 5 (R70). -/
def State.commit (s : State) : State :=
  let new := s.view.committed s.feed.mode
  (s.withView { new with moved := new.moved && !new.atRest }).offerAll (commitOffers s.view new)

/-! ### Meanings -/

/-- ZOOM_TO (R61). -/
def execZoomTo (p : Port) (s : State) : Host.Outcome State Fault Refusal :=
  serveGated 0x20 p (fun q s => s.zoomTo p q) s

/-- ZOOM_BY (R62). -/
def execZoomBy (p : Port) (s : State) : Host.Outcome State Fault Refusal :=
  serveGated 0x21 p (fun q s => s.zoomBy p q) s

/-- PAN_TO (R63). -/
def execPanTo (p : Port) (s : State) : Host.Outcome State Fault Refusal :=
  serveGated 0x22 p (fun q s => s.panTo p q) s

/-- PAN_BY (R64). -/
def execPanBy (p : Port) (s : State) : Host.Outcome State Fault Refusal :=
  serveGated 0x23 p (fun q s => s.panBy p q) s

/-- SET_SOURCE (R65). -/
def execSetSource (p : Port) (s : State) : Host.Outcome State Fault Refusal :=
  serveGated 0x24 p (fun q s => s.setSource p q) s

/-- FREEZE (R66). -/
def execFreeze (p : Port) (s : State) : Host.Outcome State Fault Refusal :=
  serveGated 0x25 p (fun _ s => s.freeze p) s

/-- UNFREEZE (R67). -/
def execUnfreeze (p : Port) (s : State) : Host.Outcome State Fault Refusal :=
  serveGated 0x26 p (fun _ s => s.unfreeze p) s

/-- BLANK (R68). -/
def execBlank (p : Port) (s : State) : Host.Outcome State Fault Refusal :=
  serveGated 0x27 p (fun _ s => s.setBlank p true) s

/-- UNBLANK (R68). -/
def execUnblank (p : Port) (s : State) : Host.Outcome State Fault Refusal :=
  serveGated 0x28 p (fun _ s => s.setBlank p false) s

/-- VIEW_READ (R69). -/
def execViewRead (p : Port) (s : State) : Host.Outcome State Fault Refusal :=
  serveOpen 0x29 p (fun _ s => .ok s s.view.results) s

end Sys2Proof.Machine
end

