-- ==== Sys2Proof/Machine/Pages.lean ====
section
/-! DEFINITION. Pages: the page store (07_page_store.md): captures, reservations, page-turn capture, discard, labels and
reads.
-/
namespace Sys2Proof.Machine

/-! ### Records and serials (R120–R123) -/

/-- The lowest-numbered EMPTY record (R124). -/
def Store.lowestEmpty (st : Store) : Option SlotId :=
  (List.finRange 20).find? fun k => decide (st.page k = .empty)

/-- The serials of the records that are not EMPTY (R121). -/
def Store.serials (st : Store) : List Nat := (List.finRange 20).filterMap fun k => (st.page k).serial?

/-- The serial after `n`: 65535 is followed by 1 (R122). -/
def serialAfter (n : Nat) : Nat := n % 65535 + 1

/-- The first free serial from `n` onward, within `fuel` steps (R122). -/
def Store.freeSerial (st : Store) : Nat → Nat → Nat
  | 0, n => n
  | fuel + 1, n => if n ∈ st.serials then Store.freeSerial st fuel (serialAfter n) else n

/-- The serial drawn next: at most 20 records hold serials, so one of 21 is free (R122). -/
def Store.nextSerial (st : Store) : Nat := st.freeSerial 20 (serialAfter st.lastSerial)

/-! ### Storing a page (R125, R126) -/

/-- The lesson tags of a page stored now (R125). -/
def Lesson.tag (l : Lesson) : Option LessonTag :=
  match l.state with
  | .running => some { number := l.number, time := l.time }
  | .paused => some { number := l.number, time := l.time }
  | _ => none

/-- The data of a page stored now in buffer `b` (R125). -/
def State.pageData (s : State) (b : BufId) (info : FrameMeta) : PageData :=
  { lesson := s.lesson.tag, zoom := s.view.zoom, x0 := s.view.camera.x0, y0 := s.view.camera.y0
    w := s.view.camera.w, h := s.view.camera.h, frame := info.frame, gain := info.gain, core := info.core
    exposure := info.exposure, lamp := info.lamp, thumb := info.thumb, exported := false, buffer := b }

/-- The PAGE_CAPTURED entry of a page (R126). -/
def capturedOffer (k : SlotId) (tag : PageTag) (d : PageData) : Offer :=
  { kind := .pageCaptured, port := tag.origin.port?, page := some { slot := k, serial := tag.serial }
    view := some { zoom := d.zoom, cx := d.x0 + d.w / 2, cy := d.y0 + d.h / 2 }, extra := tag.trigger.code }

/-- The page store with slot `k` STORED (R123, R125). -/
def Store.stored (st : Store) (k : SlotId) (tag : PageTag) (d : PageData) : Store :=
  { st.setPage k (.stored tag d) with list := st.list ++ [k] }

/-- What a block does to the state, with the entry it then offers to the timeline (R126, R133, R153). -/
structure Doing where
  state : State
  entry : Offer
deriving DecidableEq, Repr

/-- The entry offered once the LESSON_PAUSE that comes first, if any, has been carried out (R153, R159; log 17). -/
def Doing.entered (d : Doing) (pause : Option Port) : State := (d.state.meetPause pause).offer d.entry

/-- A page stored in slot `k` from the buffer the pool has given, announced to every PAGES port but the one left out
(R125, R126). -/
def State.storing (s : State) (k : SlotId) (tag : PageTag) (b : BufId) (info : FrameMeta) (leftOut : Option Port) : Doing :=
  let d := s.pageData b info
  { state := (s.withStore (s.store.stored k tag d)).postAll
      (.pageStored k tag.serial tag.origin tag.trigger info.frame) leftOut
    entry := capturedOffer k tag d }

/-- A page stored, with its entry (R125, R126). -/
def State.storePage (s : State) (k : SlotId) (tag : PageTag) (b : BufId) (info : FrameMeta) (leftOut : Option Port) :
    State := (s.storing k tag b info leftOut).entered none

/-- The last serial replaced (R122). -/
def State.drawn (s : State) (serial : Nat) : State := s.withStore { s.store with lastSerial := serial }

/-! ### CAPTURE (R124, R127) -/

/-- CAPTURE with when = NOW, into EMPTY record `k` (R124). -/
def State.captureNow (s : State) (p : Port) (k : SlotId) (text : List Byte) : Answer :=
  match s.pool.takeNewest .page with
  | (.given b info, pool) =>
    let serial := s.store.nextSerial
    let tag : PageTag := { serial := serial, origin := .port p, trigger := .manual, label := labelKept text }
    .ok (((s.withPool pool).drawn serial).storePage k tag b info (some p))
      ([byte1 k.val] ++ be16 serial ++ be32 info.frame.toNat)
  | (.ringShort, _) => .plain s .tryAgain
  | _ => .plain s .noPicture

/-- CAPTURE with when = NEXT, into EMPTY record `k` (R127). -/
def State.captureNext (s : State) (p : Port) (k : SlotId) (text : List Byte) : Answer :=
  let serial := s.store.nextSerial
  let tag : PageTag := { serial := serial, origin := .port p, trigger := .manual, label := labelKept text }
  { state := s.withStore { s.store.setPage k (.reserved tag s.intake.startCount) with lastSerial := serial }
    status := .accepted
    results := [byte1 k.val] ++ be16 serial ++ be32 s.intake.startCount.toNat }

/-- CAPTURE at the page store, its cases in order (R124). -/
def State.capture (s : State) (p : Port) (q : Request) : Answer :=
  let text := q.args.drop 1
  if 1 < argByte q.args 0 then .plain s .badArgument
  else if text.all printable = false then .plain s .badArgument
  else
    match s.store.lowestEmpty with
    | none => .plain s .storeFull
    | some k => if argByte q.args 0 = 0 then s.captureNow p k text else s.captureNext p k text

/-! ### Automatic captures (R128–R133) -/

/-- A skipped capture, announced (R133). -/
def State.skipping (s : State) (trigger : Trigger) (cause : SkipCause) (frame : Word) : Doing :=
  { state := s.postAll (.captureSkipped trigger cause frame) none
    entry := plainOffer .captureSkipped none (256 * trigger.code + cause.code) }

/-- A page stored by an automatic trigger in EMPTY record `k` (R125). -/
def State.storingAuto (s : State) (k : SlotId) (trigger : Trigger) (b : BufId) (info : FrameMeta) (pool : Pool) : Doing :=
  let serial := s.store.nextSerial
  ((s.withPool pool).drawn serial).storing k
    { serial := serial, origin := .auto, trigger := trigger, label := [] } b info none

/-- A timed capture, up to its entry (R130). -/
def State.capturingTimed (s : State) : Doing :=
  match s.store.lowestEmpty with
  | none => s.skipping .timed .storeFull 0
  | some k =>
    match s.pool.takeNewest .page with
    | (.given b info, pool) => s.storingAuto k .timed b info pool
    | (.ringShort, _) => s.skipping .timed .busy 0
    | _ => s.skipping .timed .noPicture 0

/-- A timed capture, with the LESSON_PAUSE that may come between the capture and its entry (R130, R159; log 17). -/
def State.timedCapture (s : State) (pause : Option Port) : State := s.capturingTimed.entered pause

/-- One record as a report meets it: a reservation the report follows takes its frame (R128). -/
def State.fill (s : State) (r : Report) (k : SlotId) : State :=
  match s.store.page k with
  | .reserved tag after =>
    if follows r.frame after then
      match s.pool.takeReported r.buffer r.frame .page with
      | (.given b info, pool) => (s.withPool pool).storePage k tag b info none
      | _ => s
    else s
  | _ => s

/-- The reservations in slot order, lowest first (R128). -/
def State.fillAll (s : State) (r : Report) : State := (List.finRange 20).foldl (fun t k => t.fill r k) s

/-- The thumbnail of the newest stored page (R123, R132). -/
def Store.newestThumb (st : Store) : Option (List Byte) :=
  match st.list.getLast? with
  | some k =>
    match st.page k with
    | .stored _ d => some d.thumb
    | _ => none
  | none => none

/-- The duplicate check finds the frame alike to the newest stored page (R132). -/
def Store.duplicate (st : Store) (thumb : List Byte) (limit : Nat) : Bool :=
  match st.newestThumb with
  | some t => decide (thumbDifference thumb t < limit)
  | none => false

/-- A page-turn capture up to its entry, its cases in order (R131). -/
def State.capturingTurn (s : State) (r : Report) : Doing :=
  if s.store.duplicate r.thumb s.params.duplicateLimit then s.skipping .pageTurn .duplicate r.frame
  else
    match s.store.lowestEmpty with
    | none => s.skipping .pageTurn .storeFull r.frame
    | some k =>
      match s.pool.takeReported r.buffer r.frame .page with
      | (.given b info, pool) => s.storingAuto k .pageTurn b info pool
      | (.ringShort, _) => s.skipping .pageTurn .busy r.frame
      | _ => s.skipping .pageTurn .gone r.frame

/-- A page-turn capture (R131). -/
def State.pageTurn (s : State) (r : Report) : State := (s.capturingTurn r).entered none

/-- A page-turn capture is to be tried (R131). -/
def State.pageTurnDue (s : State) (fire : Bool) : Bool :=
  fire && s.params.pageTurnCapture && decide (s.lesson.state = .running)

/-- A frame report at the page store (R128, R131). -/
def State.storeReport (s : State) (r : StoreReport) : State :=
  let filled := s.fillAll r.report
  if filled.pageTurnDue r.fire then filled.pageTurn r.report else filled

/-- PAGE_STORE_FRAME_REPORT: the oldest report passed on is served (R128; log 9). -/
def State.storeNextReport (s : State) : State :=
  match s.store.reports with
  | [] => s
  | r :: rest => (s.withStore { s.store with reports := rest }).storeReport r

/-- One record at a stall: a reservation fails (R129). -/
def State.failReservation (s : State) (k : SlotId) : State :=
  match s.store.page k with
  | .reserved tag _ =>
    (s.withStore (s.store.setPage k .empty)).postAll (.captureFailed k tag.serial tag.origin .stalled) none
  | _ => s

/-- Every reservation fails, in slot order (R129). -/
def State.failReservations (s : State) : State := (List.finRange 20).foldl State.failReservation s

/-! ### DISCARD, LABEL and reads (R134–R138) -/

/-- The store with slot `k` taken out of the store list (R123). -/
def Store.unlisted (st : Store) (k : SlotId) : Store := { st with list := st.list.filter fun j => decide (j ≠ k) }

/-- The PAGE_DISCARDED entry (R134). -/
def discardedOffer (k : SlotId) (serial : Nat) (p : Port) (extra : Nat) : Offer :=
  { kind := .pageDiscarded, port := some p, page := some { slot := k, serial := serial }, view := none, extra := extra }

/-- DISCARD of a STORED page (R134). -/
def State.discardStored (s : State) (p : Port) (k : SlotId) (tag : PageTag) (d : PageData) : Answer :=
  if s.view.named { slot := k, serial := tag.serial } then .plain s .inView
  else if 1 ≤ (s.pool.bufRec d.buffer).pins then
    .ok ((s.withStore ((s.store.setPage k (.discarding tag d p)).unlisted k)).offer (discardedOffer k tag.serial p 1)) [3]
  else
    .ok ((((s.withStore ((s.store.setPage k .empty).unlisted k)).withPool (s.pool.release d.buffer)).postAll
        (.pageDiscarded k tag.serial p) (some p)).offer (discardedOffer k tag.serial p 0)) [0]

/-- DISCARD at the page store, its cases in order (R134). -/
def State.discard (s : State) (p : Port) (q : Request) : Answer :=
  match slotOf (argByte q.args 0) with
  | none => .plain s .noPage
  | some k =>
    match s.store.page k with
    | .reserved tag _ =>
      if tag.serial = argU16 q.args 1 then
        .ok ((s.withStore (s.store.setPage k .empty)).postAll (.captureFailed k tag.serial tag.origin .cancelled) (some p))
          [0]
      else .plain s .noPage
    | .stored tag d => if tag.serial = argU16 q.args 1 then s.discardStored p k tag d else .plain s .noPage
    | _ => .plain s .noPage

/-- LABEL at the page store (R136). -/
def State.setLabel (s : State) (q : Request) : Answer :=
  let text := q.args.drop 3
  if text.all printable = false then .plain s .badArgument
  else
    match slotOf (argByte q.args 0) with
    | none => .plain s .noPage
    | some k =>
      let kept := labelKept text
      match s.store.page k with
      | .reserved tag after =>
        if tag.serial = argU16 q.args 1 then
          .ok (s.withStore (s.store.setPage k (.reserved { tag with label := kept } after))) [byte1 kept.length]
        else .plain s .noPage
      | .stored tag d =>
        if tag.serial = argU16 q.args 1 then
          .ok (s.withStore (s.store.setPage k (.stored { tag with label := kept } d))) [byte1 kept.length]
        else .plain s .noPage
      | _ => .plain s .noPage

/-- The serial, origin and trigger fields of PAGE_READ (R196). -/
def PageTag.bytes (t : PageTag) : List Byte := be16 t.serial ++ [byte1 t.origin.code, byte1 t.trigger.code]

/-- The fields of PAGE_READ from the lesson-present flag to the buffer number (R196). -/
def PageData.bytes (d : PageData) : List Byte :=
  (match d.lesson with
    | some l => [1] ++ be16 l.number ++ be32 l.time
    | none => [0] ++ be16 0 ++ be32 0)
    ++ be16 d.zoom ++ be16 d.x0 ++ be16 d.y0 ++ be16 d.w ++ be16 d.h ++ be32 d.frame.toNat
    ++ [byte1 d.gain, byte1 d.core, byte1 d.exposure, byte1 d.lamp, flag1 d.exported, byte1 d.buffer.val]

/-- The label length and label of PAGE_READ (R196). -/
def labelBytes (label : List Byte) : List Byte := [byte1 label.length] ++ label

/-- The results of PAGE_READ (R137, R196). -/
def State.pageResults (s : State) (k : SlotId) : List Byte :=
  let r := s.store.page k
  [byte1 k.val, byte1 r.stateCode]
    ++ (match r with
        | .empty => List.replicate 33 0
        | .reserved tag after =>
          tag.bytes ++ List.replicate 17 0 ++ be32 after.toNat ++ List.replicate 7 0 ++ labelBytes tag.label
        | .stored tag d => tag.bytes ++ d.bytes ++ [byte1 (s.pool.bufRec d.buffer).pins] ++ labelBytes tag.label
        | .discarding tag d _ => tag.bytes ++ d.bytes ++ [byte1 (s.pool.bufRec d.buffer).pins] ++ labelBytes tag.label)

/-- PAGE_READ at the page store (R137). -/
def State.pageRead (s : State) (q : Request) : Answer :=
  match slotOf (argByte q.args 0) with
  | none => .plain s .badArgument
  | some k => .ok s (s.pageResults k)

/-- Row `row` of a thumbnail (R138). -/
def thumbRow (thumb : List Byte) (row : Nat) : List Byte := (thumb.drop (row * 64)).take 64

/-- THUMB_READ of the newest live frame (R138). -/
def State.liveThumb (s : State) (row : Nat) : Answer :=
  match s.pool.newest with
  | none => .plain s .noPicture
  | some b =>
    match (s.pool.bufRec b).complete with
    | some info => .ok s (thumbRow info.thumb row)
    | none => .plain s .noPicture

/-- THUMB_READ at the page store (R138). -/
def State.thumbRead (s : State) (q : Request) : Answer :=
  let slot := argByte q.args 0
  let row := argByte q.args 1
  if 47 < row then .plain s .badArgument
  else if slot = 255 then s.liveThumb row
  else
    match slotOf slot with
    | none => .plain s .badArgument
    | some k =>
      match s.store.page k with
      | .stored _ d => .ok s (thumbRow d.thumb row)
      | _ => .plain s .noPage

/-! ### Meanings -/

/-- A CAPTURE request that CAPTURE_NOW serves: every one whose first argument is not NEXT (R124; log 8). -/
def meansNow (q : Request) : Bool := q.hasCode 0x40 && decide (q.args.head? ≠ some 1)

/-- A CAPTURE request that CAPTURE_NEXT serves: every one whose first argument is not NOW (R124; log 8). -/
def meansNext (q : Request) : Bool := q.hasCode 0x40 && decide (q.args.head? ≠ some 0)

/-- CAPTURE_NOW (R124). -/
def execCaptureNow (p : Port) (s : State) : Host.Outcome State Fault Refusal :=
  .next (s.serve p meansNow (fun q s => s.capture p q))

/-- CAPTURE_NEXT (R127). -/
def execCaptureNext (p : Port) (s : State) : Host.Outcome State Fault Refusal :=
  .next (s.serve p meansNext (fun q s => s.capture p q))

/-- DISCARD (R134). -/
def execDiscard (p : Port) (s : State) : Host.Outcome State Fault Refusal := serveOpen 0x41 p (fun q s => s.discard p q) s

/-- LABEL (R136). -/
def execLabel (p : Port) (s : State) : Host.Outcome State Fault Refusal := serveOpen 0x42 p (fun q s => s.setLabel q) s

/-- PAGE_READ (R137). -/
def execPageRead (p : Port) (s : State) : Host.Outcome State Fault Refusal := serveOpen 0x43 p (fun q s => s.pageRead q) s

/-- THUMB_READ (R138). -/
def execThumbRead (p : Port) (s : State) : Host.Outcome State Fault Refusal :=
  serveOpen 0x44 p (fun q s => s.thumbRead q) s

/-- PAGE_STORE_FRAME_REPORT (R128). -/
def execPageStoreFrameReport (s : State) : Host.Outcome State Fault Refusal := .next s.storeNextReport

end Sys2Proof.Machine
end

