-- ==== Sys2Proof/Machine/Intake.lean ====
section
/-! DEFINITION. Intake: the intake unit on the sensor link's events, at a completion, at a write fault and at a stall, with
SET_CLARITY and PICTURE_READ (02_intake_and_page_clarity.md; R54).
-/
namespace Sys2Proof.Machine

/-- A count of two bytes raised by 1, saturating (R20, R22, R100, R166). -/
def saturate16 (n : Nat) : Nat := min 65535 (n + 1)

/-! ### Malformed frames (R22) -/

/-- The intake record after a malformed frame (R22; log 14). -/
def Intake.abandon (i : Intake) : Intake :=
  { i with
    state := .seeking, writeBuffer := none, malformed := saturate16 i.malformed, frameEnd := false
    sums := List.replicate Config.thumbCells 0, above := [], held := [], incoming := [] }

/-- The frame in RECEIVING is malformed (R22). -/
def State.malformed (s : State) : State := s.withIntake s.intake.abandon

/-! ### Frame start (R18–R20) -/

/-- Any frame in hand ended by a new start (R18). -/
def Intake.ended (i : Intake) : Intake :=
  match i.state with
  | .receiving => i.abandon
  | .seeking => i

/-- The interval since the last start, if there was one (R19). -/
def Intake.interval (i : Intake) (now : Word) : Option Word := i.lastStart.map fun t => now - t

/-- The intake record with the new start counted and timed, and the clarity profile latched (R19, R20). -/
def Intake.started (i : Intake) (now : Word) (l : Light) (params : Params) : Intake :=
  { i with
    startCount := i.startCount + 1, lastStart := some now, lastInterval := i.interval now
    setExposure := l.controlLine, setLamp := l.applied
    gain := (i.profile.values params).1, core := (i.profile.values params).2 }

/-- The intake record when the pool has given a write buffer (R20). -/
def Intake.receive (i : Intake) (b : BufId) : Intake :=
  { i with
    state := .receiving, writeBuffer := some b, lineCount := 0, pixelCount := 0, lineOpen := false, frameEnd := false
    sums := List.replicate Config.thumbCells 0, above := [], held := [], incoming := [] }

/-- The intake record when the pool has none to give (R20). -/
def Intake.skip (i : Intake) : Intake := { i with state := .seeking, writeBuffer := none, skipped := saturate16 i.skipped }

/-- A write buffer asked for and given, or the frame skipped (R7, R20). -/
def State.askWriteBuffer (s : State) : State :=
  match s.pool.writeChoice with
  | some b => (s.withPool (s.pool.chooseWrite b)).withIntake (s.intake.receive b)
  | none => s.withIntake s.intake.skip

/-- A frame start at the moment the timer stands at (R18–R20, R37). -/
def State.frameStart (s : State) : State :=
  let i := s.intake.ended
  let l := s.light.frameStart (i.interval s.timer)
  ((s.withLight l).withIntake (i.started s.timer l s.params)).askWriteBuffer

/-- SENSOR_FRAME_START: a frame start `elapsed` microseconds after the moment the timer last stood at (R19; log 3). -/
def execSensorFrameStart (elapsed : Word) (s : State) : Host.Outcome State Fault Refusal :=
  .next (s.withTimer (s.timer + elapsed)).frameStart

/-! ### Lines and pixels (R21, R34) -/

/-- A line start in RECEIVING (R21, R22). -/
def Intake.lineStart (i : Intake) : Intake :=
  if i.lineOpen ∨ Config.frameLines ≤ i.lineCount then i.abandon
  else { i with pixelCount := 0, lineOpen := true, incoming := [] }

/-- The sums with the two luma samples of a pair at pixel `x` of line `y` (R34). -/
def addPair (sums : List Nat) (x y : Nat) (pair : Pair) : List Nat :=
  (sums.modify (thumbCell x y) (fun n => n + pair.y0.toNat)).modify (thumbCell (x + 1) y) (fun n => n + pair.y1.toNat)

/-- A pixel pair in RECEIVING (R21, R22, R34). -/
def Intake.pixelPair (i : Intake) (pair : Pair) : Intake :=
  if i.lineOpen = false ∨ Config.framePixels < i.pixelCount + 2 then i.abandon
  else
    { i with
      pixelCount := i.pixelCount + 2, sums := addPair i.sums i.pixelCount i.lineCount pair
      incoming := pair :: i.incoming }

/-- A line end closes a whole line (R21, R22). -/
def Intake.lineWhole (i : Intake) : Bool := i.lineOpen && decide (i.pixelCount = Config.framePixels)

/-- The record after a whole line (R21; log 25). -/
def Intake.lineClosed (i : Intake) : Intake :=
  { i with
    lineOpen := false, lineCount := i.lineCount + 1
    above := if i.lineCount = 0 then i.incoming.reverse else i.held
    held := i.incoming.reverse, incoming := [] }

/-- The first of `count` addresses from `first` upward that does not exist, if any (R1; log 28). -/
def firstMissing (first count : Nat) : Option Nat :=
  if Config.memorySize < first + count then some (max first Config.memorySize) else none

/-- The first address, of `count` from the start of line `y` of buffer `b`, that does not exist (R1; log 28). -/
def lineMissing (b : BufId) (y count : Nat) : Option Nat := firstMissing (Memory.address b y 0) count

/-- Line `y` written to the write buffer, and then the intake record `after`; an address that does not exist faults
(R1, R21; log 28). The bytes stay written where the port reports the write as failed later (R15; log 30). -/
def State.writeLine (s : State) (y : Nat) (bytes : List Byte) (after : Intake) : Host.Outcome State Fault Refusal :=
  match s.intake.writeBuffer with
  | none => .next (s.withIntake after)
  | some b =>
    match lineMissing b y bytes.length with
    | some a => .fault (.noSuchAddress a)
    | none => .next ((s.withMem (Memory.writeList s.mem (Memory.address b y 0) bytes)).withIntake after)

/-- The sharpened line before the one just received (R21, R30). -/
def Intake.previousLine (i : Intake) : List Byte := sharpenedLine i.gain i.core i.above i.held i.incoming.reverse

/-- The sharpened last line, which is its own neighbour below (R25, R30). -/
def Intake.lastLine (i : Intake) : List Byte := sharpenedLine i.gain i.core i.above i.held i.held

/-- SENSOR_LINE_START (R21). -/
def execSensorLineStart (s : State) : Host.Outcome State Fault Refusal :=
  .next (match s.intake.state with
    | .seeking => s
    | .receiving => s.withIntake s.intake.lineStart)

/-- SENSOR_PIXEL_PAIR (R21). -/
def execSensorPixelPair (pair : Pair) (s : State) : Host.Outcome State Fault Refusal :=
  .next (match s.intake.state with
    | .seeking => s
    | .receiving => s.withIntake (s.intake.pixelPair pair))

/-- SENSOR_LINE_END (R21). -/
def execSensorLineEnd (s : State) : Host.Outcome State Fault Refusal :=
  match s.intake.state with
  | .seeking => .next s
  | .receiving =>
    if s.intake.lineWhole then
      if s.intake.lineCount = 0 then .next (s.withIntake s.intake.lineClosed)
      else s.writeLine (s.intake.lineCount - 1) s.intake.previousLine s.intake.lineClosed
    else .next s.malformed

/-! ### Frame end and completion (R25, R26, R29) -/

/-- A frame end completes the frame: 2880 whole lines, the last one closed, and no frame end before (R22, R25). -/
def Intake.frameWhole (i : Intake) : Bool :=
  decide (i.lineCount = Config.frameLines) && !i.lineOpen && !i.frameEnd

/-- SENSOR_FRAME_END (R25). -/
def execSensorFrameEnd (s : State) : Host.Outcome State Fault Refusal :=
  match s.intake.state with
  | .seeking => .next s
  | .receiving =>
    if s.intake.frameWhole then s.writeLine (Config.frameLines - 1) s.intake.lastLine { s.intake with frameEnd := true }
    else .next s.malformed

/-- The metadata handed over at completion (R8, R25). -/
def Intake.info (i : Intake) : FrameMeta :=
  { frame := i.startCount, gain := i.gain, core := i.core, exposure := i.setExposure, lamp := i.setLamp
    thumb := thumbnail i.sums }

/-- The intake record after a completion (R25). -/
def Intake.completedFrame (i : Intake) : Intake :=
  { i with
    state := .seeking, stalled := false, writeBuffer := none, frameEnd := false, sinceCompletion := 0
    lastCompleted := i.startCount, completed := true, above := [], held := [], incoming := [] }

/-- A standing stall lifted by the frame completing (R29, R42). -/
def State.liftStall (s : State) : State :=
  if s.intake.stalled then
    (s.withLight s.light.resume).postAll (.intakeResumed s.intake.startCount) none
  else s

/-- A frame report sent to the light control unit and the motion meter, which is told whether it ends a stall (R26, R29; log 9). -/
def State.sendReport (s : State) (r : Report) (endsStall : Bool) : State :=
  (s.withLight { s.light with reports := s.light.reports ++ [r] }).withMotion
    { s.motion with reports := s.motion.reports ++ [{ report := r, endsStall := endsStall }] }

/-- The completion of the frame in write buffer `b`, in the order of R25. -/
def State.complete (s : State) (b : BufId) : State :=
  let info := s.intake.info
  (((s.withPool (s.pool.markComplete b info)).liftStall).sendReport
      { buffer := b, frame := info.frame, thumb := info.thumb } s.intake.stalled).withIntake s.intake.completedFrame

/-- The write buffer of a frame that awaits the results of its writes (R25). -/
def Intake.awaiting (i : Intake) : Option BufId :=
  if i.state = .receiving ∧ i.frameEnd = true then i.writeBuffer else none

/-- FRAME_COMPLETION (R25; log 4). -/
def execFrameCompletion (s : State) : Host.Outcome State Fault Refusal :=
  .next (match s.intake.awaiting with
    | some b => s.complete b
    | none => s)

/-- INTAKE_WRITE_FAULT (R24). No byte of the frame memory changes: what a failed write leaves there is open, and the model leaves
what the line end has written (R15; log 30). -/
def execIntakeWriteFault (buffer : BufId) (s : State) : Host.Outcome State Fault Refusal :=
  .next (if s.intake.state = .receiving ∧ s.intake.writeBuffer = some buffer then s.malformed else s)

/-! ### Stall (R27, R28) -/

/-- The intake record after the stall event (R28). -/
def Intake.stall (i : Intake) : Intake := { i.ended with stalled := true }

/-- The stall event at the four blocks (R28, R42, R53, R129). -/
def State.stall (s : State) : State :=
  ((((s.withIntake s.intake.stall).postAll (.intakeStalled s.intake.lastCompleted s.intake.completed) none).withLight
      s.light.stall).withMotion s.motion.stall).failReservations

/-- The intake record with an output frame start counted (R27). -/
def Intake.counted (i : Intake) : Intake := { i with sinceCompletion := min 255 (i.sinceCompletion + 1) }

/-- The intake unit at an output frame start (R27). -/
def State.countOutputFrame (s : State) : State :=
  let t := s.withIntake s.intake.counted
  if t.intake.stallDue t.params then t.stall else t

/-- STALL_EVENT: the output frame start at which the count reaches the limit, at the intake unit (R28; log 5). -/
def execStallEvent (s : State) : Host.Outcome State Fault Refusal :=
  .next (if s.intake.counted.stallDue s.params then s.countOutputFrame else s)

/-! ### Requests (R33, R54) -/

/-- SET_CLARITY at the intake unit (R33). -/
def State.setClarity (s : State) (q : Request) : Answer :=
  match Profile.ofCode (argByte q.args 0) with
  | none => .plain s .badArgument
  | some profile => .ok (s.withIntake { s.intake with profile := profile }) []

/-- SET_CLARITY (R33). -/
def execSetClarity (p : Port) (s : State) : Host.Outcome State Fault Refusal :=
  serveGated 0x30 p (fun q s => s.setClarity q) s

/-- The intake fields of PICTURE_READ (R35, R196). -/
def Intake.bytes (i : Intake) : List Byte :=
  [byte1 i.state.code, flag1 i.stalled, byte1 i.profile.code, byte1 i.gain, byte1 i.core] ++ be32 i.startCount.toNat
    ++ [flag1 i.lastInterval.isSome] ++ be32 (i.lastInterval.getD 0).toNat ++ be16 i.skipped ++ be16 i.malformed

/-- The light control fields of PICTURE_READ (R54, R196). -/
def Light.bytes (l : Light) (params : Params) : List Byte :=
  [byte1 l.mode.code, byte1 l.e, byte1 l.manual, flag1 l.last.isSome]
    ++ (match l.last with
        | some m => [byte1 m.mean] ++ be16 m.cells
        | none => [0, 0, 0])
    ++ [byte1 params.exposureTarget, byte1 l.setLevel, byte1 l.applied, flag1 l.auto, byte1 l.darkRun, byte1 l.brightRun]
    ++ be16 l.period ++ be16 l.onTime

/-- The motion fields of PICTURE_READ (R54, R196). -/
def Motion.bytes (m : Motion) : List Byte :=
  [flag1 m.score.isSome, byte1 (m.score.getD 0), byte1 m.detector.code, byte1 m.settle]

/-- The results of PICTURE_READ (R54, R196). -/
def State.pictureResults (s : State) : List Byte := s.intake.bytes ++ s.light.bytes s.params ++ s.motion.bytes

/-- PICTURE_READ (R54). -/
def execPictureRead (p : Port) (s : State) : Host.Outcome State Fault Refusal :=
  serveOpen 0x33 p (fun _ s => .ok s s.pictureResults) s

end Sys2Proof.Machine
end

