-- ==== Sys2Proof/Machine/Lesson.lean ====
section
/-! DEFINITION. Lesson: the lesson clock, its requests and the expiry of its timed counter, and the timeline's part in
sealing and delivery (08_lesson_clock_and_timeline.md).
-/
namespace Sys2Proof.Machine

/-! ### Changes of state (R145–R149, R157, R158) -/

/-- The lesson record of a new lesson (R145). -/
def Lesson.started (l : Lesson) : Lesson :=
  { state := .running, number := l.number % 65535 + 1, hundredths := 0, seconds := 0, minutes := 0, hours := 0, ticks := 0
    timed := 0 }

/-- LESSON_START at the lesson clock (R145, R146). -/
def State.lessonStart (s : State) (p : Port) : Answer :=
  match s.lesson.state with
  | .idle =>
    let t := s.changeLesson s.lesson.started .start
    (t.appendOwn (plainOffer .lessonStarted (some p) t.lesson.number)).lessonAnswer .ok
  | _ => s.lessonAnswer .wrongState

/-- LESSON_RESUME at the lesson clock (R146, R147). -/
def State.lessonResume (s : State) (p : Port) : Answer :=
  match s.lesson.state with
  | .paused =>
    ((s.changeLesson { s.lesson with state := .running } .resume).appendOwn
      (plainOffer .lessonResumed (some p) 0)).lessonAnswer .ok
  | _ => s.lessonAnswer .wrongState

/-- The lesson ended (R146, R148). -/
def State.endLesson (s : State) (p : Port) : Answer :=
  ((s.changeLesson { s.lesson with state := .closing } .end_).appendOwn
    (plainOffer .lessonEnded (some p) s.lesson.number)).lessonAnswer .ok

/-- LESSON_END at the lesson clock (R148). -/
def State.lessonEnd (s : State) (p : Port) : Answer :=
  match s.lesson.state with
  | .running => s.endLesson p
  | .paused => s.endLesson p
  | _ => s.lessonAnswer .wrongState

/-- LESSON_CLEAR at the lesson clock and the timeline (R158). -/
def State.lessonClear (s : State) : Answer :=
  match s.lesson.state with
  | .closing =>
    ((s.withTimeline { s.timeline with entries := [], gap := 0 }).changeLesson
      { s.lesson with state := .idle } .clear).lessonAnswer .ok
  | _ => s.lessonAnswer .wrongState

/-- The results of LESSON_READ (R150). -/
def State.lessonResults (s : State) : List Byte :=
  s.lesson.results ++ be16 s.params.timedInterval ++ be16 s.lesson.timed ++ be16 s.timeline.entries.length
    ++ be16 (s.timeline.entries.filter fun e => e.isSealed).length ++ be16 s.timeline.gap ++ be16 s.timeline.nextSeq.toNat
    ++ be16 (match s.timeline.age with
      | some a => min 65535 a
      | none => 0)

/-! ### The clock (R144, R151) -/

/-- The chain raised by one centisecond, with the mark of a carry into the seconds (R144). -/
def Lesson.centisecond (l : Lesson) : Lesson × Bool :=
  if l.hundredths < 99 then ({ l with hundredths := l.hundredths + 1 }, false)
  else if l.seconds < 59 then ({ l with hundredths := 0, seconds := l.seconds + 1 }, true)
  else if l.minutes < 59 then ({ l with hundredths := 0, seconds := 0, minutes := l.minutes + 1 }, true)
  else ({ l with hundredths := 0, seconds := 0, minutes := 0, hours := l.hours + 1 }, true)

/-- The clock counts ticks: RUNNING and below 23:59:59.99 (R144). -/
def Lesson.counting (l : Lesson) : Bool := decide (l.state = .running ∧ l.time < Config.lastCentisecond)

/-- The next tick completes a centisecond (R144). -/
def Lesson.centisecondDue (l : Lesson) : Bool := l.counting && decide (10 ≤ l.ticks + 1)

/-- The clock at a millisecond tick, with the mark of a lesson second (R144). -/
def Lesson.tick (l : Lesson) : Lesson × Bool :=
  if l.counting then
    if 10 ≤ l.ticks + 1 then { l with ticks := 0 }.centisecond else ({ l with ticks := l.ticks + 1 }, false)
  else (l, false)

/-- The next lesson second makes the timed counter expire (R151). -/
def State.expiryDue (s : State) : Bool :=
  decide (s.params.timedInterval ≠ 0 ∧ s.params.timedInterval ≤ s.lesson.timed + 1)

/-- One lesson second at the timed counter: nothing while the interval is 0, an expiry with its timed capture and the
LESSON_PAUSE that may meet it, or the counter raised (R130, R151, R159; log 17). -/
def State.lessonSecond (s : State) (pause : Option Port) : State :=
  if s.params.timedInterval = 0 then s
  else if s.expiryDue then (s.withLesson { s.lesson with timed := 0 }).timedCapture pause
  else s.withLesson { s.lesson with timed := s.lesson.timed + 1 }

/-- The lesson clock at a millisecond tick (R144, R151). -/
def State.clockTick (s : State) (pause : Option Port) : State :=
  let after := s.lesson.tick
  if after.2 then (s.withLesson after.1).lessonSecond pause else s.withLesson after.1

/-! ### Sealing and delivery (R155–R157) -/

/-- Every unsealed entry sealed, as a batch is given (R156). -/
def Timeline.sealAll (t : Timeline) : Timeline := { t with entries := t.entries.map fun e => { e with isSealed := true } }

/-- Every sealed mark cleared, as at a halt (R156). -/
def Timeline.unsealAll (t : Timeline) : Timeline :=
  { t with entries := t.entries.map fun e => { e with isSealed := false } }

/-- The GAP entry's content (R155). -/
def gapOffer (gap : Nat) : Offer := plainOffer .gap none gap

/-- The sealed entries removed, and a GAP appended if any were removed and some had been lost (R155, R156). -/
def Timeline.delivered (t : Timeline) (time : Nat) : Timeline :=
  let rest := { t with entries := t.entries.filter fun e => !e.isSealed }
  if t.entries.any (fun e => e.isSealed) ∧ 0 < t.gap then { rest.append time (gapOffer t.gap) with gap := 0 } else rest

/-- A completed delivery of a TIMELINE block at the timeline, and the lesson drained by it (R156, R157). -/
def State.timelineDelivered (s : State) : State :=
  let t := s.withTimeline (s.timeline.delivered s.lesson.time)
  if t.lesson.state = .closing ∧ t.timeline.entries = [] then t.changeLesson { t.lesson with state := .idle } .drained
  else t

/-! ### Meanings -/

/-- LESSON_START (R145). -/
def execLessonStart (p : Port) (s : State) : Host.Outcome State Fault Refusal :=
  serveOpen 0x50 p (fun _ s => s.lessonStart p) s

/-- LESSON_PAUSE (R147). -/
def execLessonPause (p : Port) (s : State) : Host.Outcome State Fault Refusal :=
  .next (s.servePause p)

/-- LESSON_RESUME (R147). -/
def execLessonResume (p : Port) (s : State) : Host.Outcome State Fault Refusal :=
  serveOpen 0x52 p (fun _ s => s.lessonResume p) s

/-- LESSON_END (R148). -/
def execLessonEnd (p : Port) (s : State) : Host.Outcome State Fault Refusal :=
  serveOpen 0x53 p (fun _ s => s.lessonEnd p) s

/-- LESSON_CLEAR (R158). -/
def execLessonClear (p : Port) (s : State) : Host.Outcome State Fault Refusal :=
  serveOpen 0x54 p (fun _ s => s.lessonClear) s

/-- LESSON_READ (R150). -/
def execLessonRead (p : Port) (s : State) : Host.Outcome State Fault Refusal :=
  serveOpen 0x55 p (fun _ s => .ok s s.lessonResults) s

/-- CLOCK_CENTISECOND: the tick that completes a centisecond, at the lesson clock (R144; log 5). -/
def execClockCentisecond (s : State) (pause : Option Port := none) : Host.Outcome State Fault Refusal :=
  .next (if s.lesson.centisecondDue then s.clockTick pause else s)

/-- TIMED_CAPTURE_EXPIRY: the lesson second at which the timed counter expires; a lesson held at 23:59:59.99 has none (R151;
log 5). -/
def execTimedCaptureExpiry (s : State) (pause : Option Port := none) : Host.Outcome State Fault Refusal :=
  .next (if s.lesson.counting && s.expiryDue then s.lessonSecond pause else s)

end Sys2Proof.Machine
end

