-- ==== Sys2Proof/Machine/Export.lean ====
section
/-! DEFINITION. Export: the export link unit (09_export_link.md): halts, pulls and deliveries with the bytes of each transfer, and
its requests.
-/
namespace Sys2Proof.Machine

/-! ### Channels (R168) -/

/-- The record of a page channel. -/
def Link.chan (l : Link) : Channel → Chan
  | .ex0 => l.ex0
  | .ex1 => l.ex1

/-- The link with another record for a page channel. -/
def Link.setChan (l : Link) (c : Channel) (x : Chan) : Link :=
  match c with
  | .ex0 => { l with ex0 := x }
  | .ex1 => { l with ex1 := x }

/-- The state with another record for a page channel. -/
def State.setChan (s : State) (c : Channel) (x : Chan) : State := s.withLink (s.link.setChan c x)

/-- The data of a channel in ACTIVE or STOPPING, which pins its buffer (R168). -/
def Chan.pinning? : Chan → Option ChanData
  | .used .active d => some d
  | .used .stopping d => some d
  | _ => none

/-- The data of an ACTIVE channel, which pulls serve (R163). -/
def Chan.active? : Chan → Option ChanData
  | .used .active d => some d
  | _ => none

/-- The blocks a channel has sent (R168). -/
def Chan.sent : Chan → Nat
  | .idle => 0
  | .used _ d => d.sent

/-- The blocks a channel has in all (R168). -/
def Chan.total : Chan → Nat
  | .idle => 0
  | .used _ d => d.total

/-! ### Halts (R166) -/

/-- The block in flight (R161). -/
def LinkState.block? : LinkState → Option Block
  | .delivering b => some b
  | _ => none

/-- The halt cause recorded (R161). -/
def LinkState.cause? : LinkState → Option HaltCause
  | .halted c => some c
  | _ => none

/-- A channel at a halt: HALTED with its pin released, if it was ACTIVE or STOPPING (R166). -/
def State.haltChannel (s : State) (c : Channel) : State :=
  match (s.link.chan c).pinning? with
  | some d => (s.setChan c (.used .halted d)).unpin d.buffer
  | none => s

/-- The link halts from READY or DELIVERING, in the order of R166; what was owed of the block in flight is dropped. R166 gives
no order of the two page channels: the model halts and unpins EX0 before EX1 (log 6), which is also the order of the two
PAGE_DISCARDED notices and of the two buffers that may join a short ring (R6, R13, R135). -/
def State.haltNow (s : State) (cause : HaltCause) : State :=
  let linkDown := s.withLink { s.link with state := .halted cause, halts := saturate16 s.link.halts, owed := [] }
  let channels := (linkDown.haltChannel .ex0).haltChannel .ex1
  (channels.withTimeline channels.timeline.unsealAll).postAll (.exportHalted cause s.link.state.block?) none

/-- A halt event; in HALTED it changes nothing (R166). -/
def State.halt (s : State) (cause : HaltCause) : State :=
  match s.link.state with
  | .halted _ => s
  | _ => s.haltNow cause

/-! ### Choosing a channel (R163) -/

/-- One of the candidates by the alternation (R163). -/
def alternate (last : Option Channel) (c0 c1 : Bool) : Option Channel :=
  match c0, c1 with
  | true, true => some (if last = some .ex0 then .ex1 else .ex0)
  | true, false => some .ex0
  | false, true => some .ex1
  | false, false => none

/-- A BURST channel in progress: ACTIVE, with blocks sent of 1 or more (R163). -/
def Chan.inBurst (c : Chan) : Bool :=
  match c.active? with
  | some d => decide (d.mode = .burst ∧ 1 ≤ d.sent)
  | none => false

/-- The page channel a pull serves, if any (R163, steps 2 and 3). -/
def Link.choose (l : Link) : Option Channel :=
  match alternate l.lastServed l.ex0.inBurst l.ex1.inBurst with
  | some c => some c
  | none => alternate l.lastServed l.ex0.active?.isSome l.ex1.active?.isSome

/-! ### Blocks (R164, R169, R170) -/

/-- A status header: IDLE with entry count 0, or HALTED with the halt cause (R162, R164). -/
def statusHeader (kind : Nat) (lesson count : Nat) : List Byte := blockHeader kind 255 lesson 0 255 false 0 0 count

/-- The header of a PAGE_HEADER or PAGE_DATA block (R164). -/
def pageBlockHeader (kind : BlockKind) (c : Channel) (lesson : Nat) (d : ChanData) (length : Nat) : List Byte :=
  blockHeader kind.code (channelCode c) lesson d.serial d.slot.val (decide (d.sent + 1 = d.total)) d.sent length 0

/-- A delivery begun: DELIVERING with its block, delivery time 0, and the bytes the transfer is to carry (R162). -/
def State.beginDelivery (s : State) (b : Block) (bytes : List Byte) : State :=
  s.withLink { s.link with state := .delivering b, time := 0, transfer := .block, owed := bytes, out := [] }

/-- A page channel's block sent (R164, R169, R170); reading page data outside the frame memory faults (log 28). -/
def State.sendPage (s : State) (c : Channel) (d : ChanData) : Host.Outcome State Fault Refusal :=
  let t := s.withLink { s.link with lastServed := some c }
  if d.sent = 0 then
    .next (t.beginDelivery { channel := some c, index := 0, kind := .pageHeader }
      (pageBlockHeader .pageHeader c s.lesson.number d d.snapshot.length ++ d.snapshot))
  else
    let addresses := blockAddresses d d.sent
    match Memory.missing addresses with
    | some a => .fault (.noSuchAddress a)
    | none =>
      .next (t.beginDelivery { channel := some c, index := d.sent, kind := .pageData }
        (pageBlockHeader .pageData c s.lesson.number d addresses.length ++ addresses.map (Memory.read s.mem)))

/-- The last flag of a TIMELINE block (R164). -/
def State.lastBatch (s : State) : Bool := decide (s.lesson.state = .closing ∧ s.timeline.gap = 0)

/-- The sequence number of a batch's first entry (R164). -/
def firstSeq (batch : List Entry) : Nat :=
  match batch with
  | e :: _ => e.seq.toNat
  | [] => 0

/-- A TIMELINE block sent: the batch sealed and its bytes (R156, R164, R195). -/
def State.sendBatch (s : State) : State :=
  let batch := s.timeline.unsealed
  (s.withTimeline s.timeline.sealAll).beginDelivery { channel := none, index := firstSeq batch, kind := .timeline }
    (blockHeader BlockKind.timeline.code 2 s.lesson.number 0 255 s.lastBatch (firstSeq batch) (20 * batch.length)
      batch.length ++ batch.flatMap Entry.bytes)

/-- A transfer opened that begins no delivery (R162). -/
def State.opened (s : State) (transfer : Transfer) : State := s.withLink { s.link with transfer := transfer, out := [] }

/-- A pull taken in READY (R162, R163). -/
def State.pullReady (s : State) : Host.Outcome State Fault Refusal :=
  if timelineReady s.timeline s.lesson.state s.params then .next s.sendBatch
  else
    match s.link.choose with
    | none => .next (s.opened (.header (statusHeader 4 s.lesson.number 0)))
    | some c =>
      match (s.link.chan c).active? with
      | some d => s.sendPage c d
      | none => .next (s.opened (.header (statusHeader 4 s.lesson.number 0)))

/-- The opening of a transfer, which is the pull, in each link state (R162). -/
def State.openTransfer (s : State) : Host.Outcome State Fault Refusal :=
  match s.link.state with
  | .ready => s.pullReady
  | .delivering _ => .next (s.opened .nothing)
  | .halted cause => .next (s.opened (.header (statusHeader 5 s.lesson.number cause.code)))

/-! ### Deliveries (R165, R172) -/

/-- The store with the exported flag set on a STORED record of that serial (R139). -/
def Store.markExported (st : Store) (k : SlotId) (serial : Nat) : Store :=
  match st.storedWith k serial with
  | some (tag, d) => st.setPage k (.stored tag { d with exported := true })
  | none => st

/-- A page channel reaches DONE, in the order of R172. -/
def State.channelDone (s : State) (c : Channel) (d : ChanData) : State :=
  let marked := match d.scope with
    | .full => s.withStore (s.store.markExported d.slot d.serial)
    | .window => s
  ((marked.setChan c (.used .done { d with sent := d.sent + 1 })).unpin d.buffer).postAll
    (.exportDone c d.slot d.serial d.scope d.total d.requester) none

/-- A page channel's block delivered (R172). -/
def State.pageDelivered (s : State) (c : Channel) : State :=
  match s.link.chan c with
  | .used .active d =>
    if d.total ≤ d.sent + 1 then s.channelDone c d else s.setChan c (.used .active { d with sent := d.sent + 1 })
  | .used .stopping d =>
    if d.total ≤ d.sent + 1 then s.channelDone c d
    else (s.setChan c (.used .stopped { d with sent := d.sent + 1 })).unpin d.buffer
  | _ => s

/-- The block's channel told of its delivery (R165). -/
def State.delivered (s : State) (b : Block) : State :=
  match b.channel with
  | some c => s.pageDelivered c
  | none => s.timelineDelivered

/-- The last byte of the block in flight clocked: in DELIVERING what was still owed has been driven, the link enters READY,
keeping the delivery time, and the channel is told; otherwise the last byte is ignored (R165). -/
def State.lastByte (s : State) : State :=
  match s.link.state with
  | .delivering b => (s.withLink { s.link with state := .ready, owed := [], out := s.link.out ++ s.link.owed }).delivered b
  | _ => s

/-- EXPORT_DELIVERY_COMPLETED (R165; log 20). -/
def execExportDeliveryCompleted (s : State) : Host.Outcome State Fault Refusal := .next s.lastByte

/-- `count` bytes clocked in the transfer that is open: of the block in flight, whose last one completes the delivery, or of a
status header; a transfer that carries nothing drives nothing (R162, R165; log 20). -/
def State.clockTransfer (s : State) (count : Nat) : State :=
  match s.link.transfer with
  | .block =>
    if s.link.owed = [] then s
    else if s.link.owed.length ≤ count then s.lastByte
    else s.withLink { s.link with owed := s.link.owed.drop count, out := s.link.out ++ s.link.owed.take count }
  | .header rest =>
    s.withLink { s.link with transfer := .header (rest.drop count), out := s.link.out ++ rest.take count }
  | _ => s

/-- The transfer that is open is closed before the last byte of what it carries (R162). A transfer whose block a halt has discarded
carries nothing more, so its closing is no link error, also where EXPORT_RESUME has come between (log 20). -/
def Link.brokenOff (l : Link) : Bool :=
  match l.transfer with
  | .block => !l.owed.isEmpty
  | .header rest => !rest.isEmpty
  | _ => false

/-- The transfer that follows a closing: none, but for the one an ignored pull opened, after which the transfer of the block
in flight goes on (R162: that block is still owed; log 20). -/
def Link.afterClosing (l : Link) : Transfer :=
  match l.transfer, l.state with
  | .nothing, .delivering _ => .block
  | _, _ => .closed

/-- The recorder closes the transfer; closed too early, it is a link error (R162, R166). -/
def State.closeTransfer (s : State) : State :=
  let t := s.withLink { s.link with transfer := s.link.afterClosing }
  if s.link.brokenOff then t.halt .linkError else t

/-- EXPORT_PULL: the opening of a transfer, or one of the events that follow it (R162; log 20). -/
def execExportPull (s : State) (part : PullPart := .opening) : Host.Outcome State Fault Refusal :=
  match part with
  | .opening => s.openTransfer
  | .clock count => .next (s.clockTransfer count)
  | .closing => .next s.closeTransfer

/-- The link at a millisecond tick (R165). -/
def State.linkTick (s : State) : State :=
  match s.link.state with
  | .delivering _ =>
    let t := s.withLink { s.link with time := s.link.time + 1 }
    if t.params.exportTimeout ≤ t.link.time then t.halt .timeout else t
  | _ => s

/-- The next tick halts the link (R165). -/
def State.timeoutDue (s : State) : Bool :=
  decide (s.link.state.block?.isSome = true ∧ s.params.exportTimeout ≤ s.link.time + 1)

/-- EXPORT_DELIVERY_TIMEOUT: the tick at which the delivery time reaches the limit, at the link (R165; log 5). -/
def execExportDeliveryTimeout (s : State) : Host.Outcome State Fault Refusal :=
  .next (if s.timeoutDue then s.linkTick else s)

/-- EXPORT_LINK_ERROR: a fault on the transfer, or one broken off (R166). -/
def execExportLinkError (s : State) : Host.Outcome State Fault Refusal := .next (s.halt .linkError)

/-- A failed read of page data concerns the block in flight (R166; log 21). -/
def State.readsFor (s : State) (c : Channel) (b : BufId) : Bool :=
  match s.link.state with
  | .delivering block =>
    decide (block.channel = some c ∧ block.kind = .pageData)
      && (match (s.link.chan c).pinning? with
          | some d => decide (d.buffer = b)
          | none => false)
  | _ => false

/-- EXPORT_MEMORY_FAULT (R166; log 21). -/
def execExportMemoryFault (channel : Channel) (buffer : BufId) (s : State) : Host.Outcome State Fault Refusal :=
  .next (if s.readsFor channel buffer then s.halt .memory else s)

/-! ### Requests (R167, R171–R175) -/

/-- A channel record newly started on a page (R169–R171). -/
def startedChan (k : SlotId) (tag : PageTag) (d : PageData) (scope : Scope) (mode : ExportMode) (p : Port) : ChanData :=
  { slot := k, serial := tag.serial, buffer := d.buffer, scope := scope, mode := mode
    total := dataBlocks scope d.w d.h + 1, sent := 0, requester := p, snapshot := pageHeader k tag d scope
    x0 := d.x0, y0 := d.y0, w := d.w, h := d.h }

/-- EXPORT_PAGE on a channel, its last two cases (R171). -/
def State.startExport (s : State) (p : Port) (c : Channel) (scope : Scope) (mode : ExportMode) (slot serial : Nat) :
    Answer :=
  match slotOf slot with
  | none => .plain s .noPage
  | some k =>
    match s.store.storedWith k serial with
    | none => .plain s .noPage
    | some (tag, d) =>
      let x := startedChan k tag d scope mode p
      .ok ((s.setChan c (.used .active x)).pin d.buffer) (be32 x.total)

/-- EXPORT_PAGE at the export link unit, its cases in order (R171). -/
def State.exportPage (s : State) (p : Port) (q : Request) : Answer :=
  match channelOfCode (argByte q.args 0), Scope.ofCode (argByte q.args 4), ExportMode.ofCode (argByte q.args 5) with
  | some c, some scope, some mode =>
    match (s.link.chan c).pinning? with
    | some _ => .plain s .busy
    | none => s.startExport p c scope mode (argByte q.args 1) (argU16 q.args 2)
  | _, _, _ => .plain s .badArgument

/-- A block of the channel is in flight (R173). -/
def Link.inFlight (l : Link) (c : Channel) : Bool :=
  match l.state.block? with
  | some b => decide (b.channel = some c)
  | none => false

/-- The results of EXPORT_STOP: state and blocks sent (R173). -/
def Link.stopResults (l : Link) (c : Channel) : List Byte := [byte1 (l.chan c).stateCode] ++ be32 (l.chan c).sent

/-- An answer of EXPORT_STOP in the state it leaves (R173). -/
def State.stopAnswer (s : State) (c : Channel) : Answer := .ok s (s.link.stopResults c)

/-- EXPORT_STOP of a channel (R173). -/
def State.stopChannel (s : State) (c : Channel) : Answer :=
  match s.link.chan c with
  | .used .active d =>
    if s.link.inFlight c then (s.setChan c (.used .stopping d)).stopAnswer c
    else ((s.setChan c (.used .stopped d)).unpin d.buffer).stopAnswer c
  | .used .stopping _ => s.stopAnswer c
  | .used .stopped _ => s.stopAnswer c
  | .used .halted _ => s.stopAnswer c
  | _ => .plain s .wrongState

/-- EXPORT_STOP at the export link unit (R173). -/
def State.exportStop (s : State) (q : Request) : Answer :=
  match channelOfCode (argByte q.args 0) with
  | none => .plain s .badArgument
  | some c => s.stopChannel c

/-- The results of EXPORT_CONTINUE: state, blocks sent and block total (R174). -/
def Link.continueResults (l : Link) (c : Channel) : List Byte := l.stopResults c ++ be32 (l.chan c).total

/-- The page of a channel's record is still there: its slot is STORED with its serial, in its buffer. A page of the same serial in
another buffer is another page, which has drawn the serial again (R122, R139, R174; log 31). -/
def Store.keepsPage (st : Store) (d : ChanData) : Bool :=
  match st.storedWith d.slot d.serial with
  | some (_, data) => decide (data.buffer = d.buffer)
  | none => false

/-- A stopped or halted channel continued, or cleared when its page is gone (R174). -/
def State.continueChannel (s : State) (c : Channel) (d : ChanData) : Answer :=
  if s.store.keepsPage d then
    let t := (s.setChan c (.used .active d)).pin d.buffer
    .ok t (t.link.continueResults c)
  else .plain (s.setChan c .idle) .noPage

/-- EXPORT_CONTINUE at the export link unit (R174). -/
def State.exportContinue (s : State) (q : Request) : Answer :=
  match channelOfCode (argByte q.args 0) with
  | none => .plain s .badArgument
  | some c =>
    match s.link.chan c with
    | .used .stopped d => s.continueChannel c d
    | .used .halted d => s.continueChannel c d
    | _ => .plain s .wrongState

/-- The code of the halt cause recorded, 0 if none (R167, R175). -/
def LinkState.causeCode (l : LinkState) : Nat :=
  match l with
  | .halted c => c.code
  | _ => 0

/-- EXPORT_RESUME at the export link unit (R167). -/
def State.exportResume (s : State) : Answer :=
  match s.link.state with
  | .halted cause =>
    if s.ports.recorder.present then
      .ok (s.withLink { s.link with state := .ready }) [byte1 (LinkState.code .ready), byte1 cause.code]
    else .plain s .wrongState
  | other => .ok s [byte1 other.code, 0]

/-- What EXPORT_READ reports of a page channel: zeros in IDLE (R175, R196). -/
def Chan.bytes (c : Chan) : List Byte :=
  match c with
  | .idle => List.replicate 15 0
  | .used _ d =>
    [byte1 c.stateCode, byte1 d.slot.val] ++ be16 d.serial ++ [byte1 d.scope.code, byte1 d.mode.code] ++ be32 d.total
      ++ be32 d.sent ++ [byte1 (portNumber d.requester)]

/-- The channel and index of the block in flight, 255 and 0 if none (R175). -/
def LinkState.blockBytes (l : LinkState) : List Byte :=
  match l.block? with
  | some b => [byte1 (blockChannelCode b.channel)] ++ be32 b.index
  | none => [255] ++ be32 0

/-- The results of EXPORT_READ (R175, R196). -/
def State.exportResults (s : State) : List Byte :=
  [byte1 s.link.state.code, byte1 s.link.state.causeCode] ++ s.link.state.blockBytes ++ be16 s.link.time
    ++ [byte1 (match s.link.lastServed with
        | some c => channelCode c
        | none => 255)]
    ++ be16 s.link.halts ++ [flag1 (timelineReady s.timeline s.lesson.state s.params)]
    ++ s.link.ex0.bytes ++ s.link.ex1.bytes

/-- EXPORT_PAGE (R171). -/
def execExportPage (p : Port) (s : State) : Host.Outcome State Fault Refusal :=
  serveOpen 0x60 p (fun q s => s.exportPage p q) s

/-- EXPORT_STOP (R173). -/
def execExportStop (p : Port) (s : State) : Host.Outcome State Fault Refusal :=
  serveOpen 0x61 p (fun q s => s.exportStop q) s

/-- EXPORT_CONTINUE (R174). -/
def execExportContinue (p : Port) (s : State) : Host.Outcome State Fault Refusal :=
  serveOpen 0x62 p (fun q s => s.exportContinue q) s

/-- EXPORT_RESUME (R167). -/
def execExportResume (p : Port) (s : State) : Host.Outcome State Fault Refusal :=
  serveOpen 0x63 p (fun _ s => s.exportResume) s

/-- EXPORT_READ (R175). -/
def execExportRead (p : Port) (s : State) : Host.Outcome State Fault Refusal :=
  serveOpen 0x64 p (fun _ s => .ok s s.exportResults) s

end Sys2Proof.Machine
end

