-- ==== Sys2Proof/Machine/Sampling.lean ====
section
/-! DEFINITION. Sampling: how the projector feed forms each output sample (05_projector_feed.md, section 5.5), and what the
projector link carries for each pixel pair of the output frame in progress (R82, R93, R99, R100; log 22).
-/
namespace Sys2Proof.Machine

/-- The three planes a buffer is read as (section 5.5). -/
inductive Plane
  | luma
  | cb
  | cr
deriving DecidableEq, Repr

/-- Columns of a plane of the whole frame (section 5.5). -/
def Plane.columns : Plane → Nat
  | .luma => 3840
  | .cb => 1920
  | .cr => 1920

/-- One sample of a plane of buffer `b`, from the pair layout of R1. -/
def planeSample (m : List Host.Cell) (b : BufId) (plane : Plane) (column line : Nat) : Nat :=
  match plane with
  | .luma => (Memory.read m (Memory.address b line (2 * column))).toNat
  | .cb => (Memory.read m (Memory.address b line (4 * column + 1))).toNat
  | .cr => (Memory.read m (Memory.address b line (4 * column + 3))).toNat

/-- A sample of the decimated plane (R94). -/
def decimated (m : List Host.Cell) (b : BufId) (plane : Plane) (d u v : Nat) : Nat :=
  let block := (List.range d).flatMap fun j => (List.range d).map fun i => planeSample m b plane (d * u + i) (d * v + j)
  (block.sum + d * d / 2) / (d * d)

/-- The coefficients of each phase, for taps −1, 0, +1 and +2 (R97). -/
def coefficients : Nat → List Int
  | 0 => [0, 128, 0, 0]
  | 1 => [-4, 127, 5, 0]
  | 2 => [-6, 123, 12, -1]
  | 3 => [-8, 118, 20, -2]
  | 4 => [-9, 111, 29, -3]
  | 5 => [-9, 102, 39, -4]
  | 6 => [-9, 93, 50, -6]
  | 7 => [-9, 83, 61, -7]
  | 8 => [-8, 72, 72, -8]
  | 9 => [-7, 61, 83, -9]
  | 10 => [-6, 50, 93, -9]
  | 11 => [-4, 39, 102, -9]
  | 12 => [-3, 29, 111, -9]
  | 13 => [-2, 20, 118, -8]
  | 14 => [-1, 12, 123, -6]
  | _ => [0, 5, 127, -4]

/-- One pass of four taps (R96). -/
def fourTap (phase : Nat) (taps : List Nat) : Nat :=
  clampInt 0 255 (((List.zipWith (fun (c : Int) (t : Nat) => c * (t : Int)) (coefficients phase) taps).sum + 64) / 128)

/-- One pass of two taps (R98). -/
def twoTap (phase a b : Nat) : Nat := ((16 - phase) * a + phase * b + 8) / 16

/-- Tap `k` of the four around `p`, counted from 0, clamped to a plane of `size` columns or lines (R96). -/
def tapAt (p k size : Nat) : Nat := clampInt 0 (size - 1) ((p : Int) - 1 + (k : Int))

/-- Integer part of a 16.16 position (R95). -/
def positionWhole (x : Nat) : Nat := x / 65536

/-- Phase of a 16.16 position (R95). -/
def positionPhase (x : Nat) : Nat := x / 4096 % 16

/-- Output luma of pixel `i` of line `j` of an area (R95, R96). -/
def outputLuma (m : List Host.Cell) (b : BufId) (win : Window) (i j : Nat) : Nat :=
  let x := 65536 * (win.x0 / win.d) + i * win.step
  let y := 65536 * (win.y0 / win.d) + j * win.step
  let row := fun k =>
    fourTap (positionPhase x) ((List.range 4).map fun t =>
      decimated m b .luma win.d (tapAt (positionWhole x) t (3840 / win.d)) (tapAt (positionWhole y) k (2880 / win.d)))
  fourTap (positionPhase y) ((List.range 4).map row)

/-- Output chroma of pair `k` of line `j` of an area (R98). -/
def outputChroma (m : List Host.Cell) (b : BufId) (plane : Plane) (win : Window) (k j : Nat) : Nat :=
  let xc := (65536 * (win.x0 / win.d) + 2 * k * win.step) / 2
  let y := 65536 * (win.y0 / win.d) + j * win.step
  let column := fun t => min (positionWhole xc + t) (1920 / win.d - 1)
  let line := fun t => min (positionWhole y + t) (2880 / win.d - 1)
  let row := fun t => twoTap (positionPhase xc) (decimated m b plane win.d (column 0) (line t))
    (decimated m b plane win.d (column 1) (line t))
  twoTap (positionPhase y) (row 0) (row 1)

/-- The output pair `k` of line `j` of an area that shows buffer `b` through `win` (R95–R98). -/
def picturePair (m : List Host.Cell) (b : BufId) (win : Window) (j k : Nat) : Pair :=
  { y0 := byte1 (outputLuma m b win (2 * k) j), cb := byte1 (outputChroma m b .cb win k j)
    y1 := byte1 (outputLuma m b win (2 * k + 1) j), cr := byte1 (outputChroma m b .cr win k j) }

/-- Black (R93). -/
def blackPair : Pair := { y0 := 0, cb := 128, y1 := 0, cr := 128 }

/-- What an area sends for pair `k` of line `j` counted in the area, and pair `whole` counted in the output line: its
picture, or black, or its picture up to the place of a read fault and black from there (R93, R100). -/
def Area.pair (a : Area) (m : List Host.Cell) (win : Window) (j k whole : Nat) : Pair :=
  match a.showing, a.pin, a.fault with
  | .picture, some b, _ => picturePair m b win j k
  | .blackFault, some b, some place =>
    if j < place.line ∨ (j = place.line ∧ whole < place.pair) then picturePair m b win j k else blackPair
  | _, _, _ => blackPair

/-- Lines of the output frame in progress: those of the mode held, and none in DETACHED, when the link is not driven (R82,
R84). -/
def Feed.lines (f : Feed) : Nat :=
  match f.state with
  | .detached => 0
  | _ => f.mode.size.2

/-- Pixel pairs of an output line in the mode held (R82). -/
def Feed.pairs (f : Feed) : Nat := f.mode.size.1 / 2

/-- What the area that pair `k` of an output line belongs to sends for it on line `j`: in SPLIT the left area has the first
half of the pairs, the right area the second half (R82, R93). -/
def State.areaPair (s : State) (j k : Nat) : Pair :=
  let half := s.feed.pairs / 2
  if s.view.active.source = .split ∧ half ≤ k then
    match s.view.pageArea with
    | some win => s.feed.second.pair s.mem win j (k - half) k
    | none => blackPair
  else s.feed.first.pair s.mem s.view.camera j k k

/-- What the projector link carries for pair `k` of line `j` of the output frame in progress; none outside the lines and the
pairs of the mode held (R82, R84, R93). -/
def State.outputPair (s : State) (j k : Nat) : Option Pair :=
  if j < s.feed.lines ∧ k < s.feed.pairs then some (s.areaPair j k) else none

/-- One line of the output frame: its pairs from left to right (R82). -/
def State.outputLine (s : State) (j : Nat) : List Pair := (List.range s.feed.pairs).map (s.areaPair j)

/-- The output frame in progress as the projector link carries it: its lines from top to bottom (R82; log 22). -/
def State.outputFrame (s : State) : List (List Pair) := (List.range s.feed.lines).map s.outputLine

end Sys2Proof.Machine
end

