-- ==== Sys2Proof/Machine/Feed.lean ====
section
/-! DEFINITION. Feed: the projector feed (05_projector_feed.md): its states, its requests, the frame begin, and read faults,
with the output frame start that the view unit, the feed and the intake unit share.
-/
namespace Sys2Proof.Machine

/-! ### States (R84–R88) -/

/-- An area that has ceased to send picture for want of a state; its pin and this frame's fault stay (R92, R93; log 13). An area in
BLACK_FAULT is in BLACK_STATE from then on: R93 gives that showing in STARTING, R89 has BLACK_FAULT read until the next frame begin,
and the model follows R93 (log 13). -/
def Area.cut (a : Area) : Area := { a with showing := .blackState }

/-- The feed record in another state, sending no picture (R84, R88, R93). -/
def Feed.cutTo (f : Feed) (state : FeedState) : Feed :=
  { f with state := state, first := f.first.cut, second := f.second.cut }

/-- The feed enters a state, with the notice of the entry (R87). -/
def State.enterFeed (s : State) (f : Feed) (cause : FeedCause) : State :=
  (s.withFeed f).postAll (.feedState f.state s.feed.state f.mode cause) none

/-- SENSE_PRESENT (R84; log 24). -/
def execSensePresent (s : State) : Host.Outcome State Fault Refusal :=
  .next (if s.feed.sense then s
    else s.enterFeed { s.feed.cutTo .starting with sense := true, starting := 0 } .sensePresent)

/-- SENSE_ABSENT (R84; log 24). -/
def execSenseAbsent (s : State) : Host.Outcome State Fault Refusal :=
  .next (if s.feed.sense then s.enterFeed { s.feed.cutTo .detached with sense := false } .senseLost else s)

/-- SET_OUTPUT_MODE at the feed (R88). -/
def State.setOutputMode (s : State) (q : Request) : Answer :=
  match OutputMode.ofCode (argByte q.args 0) with
  | none => .plain s .badArgument
  | some mode =>
    if mode = s.feed.mode then .ok s [byte1 mode.code]
    else
      match s.feed.state with
      | .detached => .ok (s.withFeed { s.feed with mode := mode }) [byte1 mode.code]
      | _ => .ok (s.enterFeed { s.feed.cutTo .starting with mode := mode, starting := 0 } .modeChange) [byte1 mode.code]

/-- SET_OUTPUT_MODE (R88). -/
def execSetOutputMode (p : Port) (s : State) : Host.Outcome State Fault Refusal :=
  serveGated 0x38 p (fun q s => s.setOutputMode q) s

/-- What FEED_READ reports of an area (R89). -/
def Area.bytes (a : Area) (live : Bool) : List Byte :=
  [byte1 (if live then a.showing.code else Showing.code .blackState), byte1 (bufferCode a.pin)]

/-- The results of FEED_READ (R89, R196). -/
def State.feedResults (s : State) : List Byte :=
  let live := decide (s.feed.state ≠ .detached)
  [byte1 s.feed.state.code, byte1 s.feed.mode.code, flag1 s.feed.sense, byte1 s.feed.starting]
    ++ be32 s.feed.frames.toNat ++ be16 s.feed.faults ++ s.feed.first.bytes live
    ++ s.feed.second.bytes (live && decide (s.view.active.source = .split))

/-- FEED_READ (R89). -/
def execFeedRead (p : Port) (s : State) : Host.Outcome State Fault Refusal :=
  serveOpen 0x39 p (fun _ s => .ok s s.feedResults) s

/-! ### Frame begin (R83, R85, R90–R93) -/

/-- Every pin of the previous frame begin released, and none recorded; the frame is counted (R83, R90). -/
def State.releaseFeed (s : State) : State :=
  let t := (s.unpin? s.feed.first.pin).unpin? s.feed.second.pin
  t.withFeed { t.feed with first := Area.reset, second := Area.reset, frames := t.feed.frames + 1 }

/-- An area that shows a buffer, or black for want of a frame (R91, R93). -/
def Area.showBuffer (b : Option BufId) : Area :=
  { pin := b, showing := if b.isSome then .picture else .blackNoFrame, fault := none }

/-- The buffer of the camera area: the HELD one when frozen, else the newest complete (R91). -/
def State.cameraBuffer (s : State) : Option BufId := if s.view.active.frozen then s.view.held else s.pool.newest

/-- The buffer of the page the active view names (R91, R139). -/
def State.pageBuffer (s : State) : Option BufId :=
  match s.view.active.page with
  | some r =>
    match s.store.page r.slot with
    | .stored _ d => some d.buffer
    | _ => none
  | none => none

/-- A buffer pinned, if there is one. -/
def State.pin? (s : State) : Option BufId → State
  | some b => s.pin b
  | none => s

/-- The sources of the areas in RUNNING: first area, then second; none for an area the view does not have (R91). -/
def State.sources (s : State) : Option BufId × Option (Option BufId) :=
  match s.view.active.source with
  | .camera => (s.cameraBuffer, none)
  | .page => (s.pageBuffer, none)
  | .split => (s.cameraBuffer, some s.pageBuffer)

/-- The second area as it is recorded: BLACK_STATE where the view has none (R91, R93). -/
def secondArea : Option (Option BufId) → Area
  | some b => Area.showBuffer b
  | none => Area.reset

/-- The sources of the committed view pinned (R91). -/
def State.pinSources (s : State) : State :=
  let src := s.sources
  let t := (s.pin? src.1).pin? src.2.join
  t.withFeed { t.feed with first := Area.showBuffer src.1, second := secondArea src.2 }

/-- The areas of a blank view (R93). -/
def State.blankAreas (s : State) : State :=
  s.withFeed { s.feed with
    first := { Area.reset with showing := .blackBlank }
    second := if s.view.active.source = .split then { Area.reset with showing := .blackBlank } else Area.reset }

/-- A frame that begins in RUNNING (R91, R93). -/
def State.beginRunning (s : State) : State := if s.view.active.blank then s.blankAreas else s.pinSources

/-- The feed enters RUNNING (R85, R87). -/
def State.startFeed (s : State) : State := s.enterFeed { s.feed with state := .running } .started

/-- The state settled for the frame that begins, after the releases (R85, R91). -/
def State.beginFrame (s : State) : State :=
  match s.feed.state with
  | .detached => s
  | .starting =>
    if s.feed.starting < 4 then s.withFeed { s.feed with starting := s.feed.starting + 1 } else s.startFeed.beginRunning
  | .running => s.beginRunning

/-- The feed's frame begin (R83, R90, R91). -/
def State.frameBegin (s : State) : State := s.releaseFeed.beginFrame

/-- The commit with its frame begin: one event at the view unit and the feed (R59, R70). -/
def State.commitAndBegin (s : State) : State := s.commit.frameBegin

/-- OUTPUT_FRAME_START: the commit with its frame begin, and the count at the intake unit (R83; log 6). -/
def execOutputFrameStart (s : State) : Host.Outcome State Fault Refusal := .next s.commitAndBegin.countOutputFrame

/-- The next frame begin takes the feed into RUNNING (R85). -/
def Feed.startDue (f : Feed) : Bool := decide (f.state = .starting ∧ 4 ≤ f.starting)

/-- FEED_STARTED: the frame begin, with its commit, that finds the count at 4 (R85; log 5). -/
def execFeedStarted (s : State) : Host.Outcome State Fault Refusal :=
  .next (if s.feed.startDue then s.commitAndBegin else s)

/-! ### Read faults (R100) -/

/-- The area record a fault report names, if the active view has that area (R72, R100). -/
def State.area? (s : State) : FeedArea → Option Area
  | .full => if s.view.active.source = .split then none else some s.feed.first
  | .left => if s.view.active.source = .split then some s.feed.first else none
  | .right => if s.view.active.source = .split then some s.feed.second else none

/-- The feed record with another record for an area (R72). -/
def Feed.setArea (f : Feed) (which : FeedArea) (a : Area) : Feed :=
  match which with
  | .full => { f with first := a }
  | .left => { f with first := a }
  | .right => { f with second := a }

/-- An area after its fault: black from the place on, if it was sending picture (R100; log 13). -/
def Area.faulted (a : Area) (place : FaultPlace) : Area :=
  { a with
    showing := if a.showing = .picture then .blackFault else a.showing
    fault := some place }

/-- A read fault taken for an area (R100). FEED_FAULT carries the line the report names, also in DETACHED, when no line is being
sent and R100 says no more (log 13). -/
def State.readFault (s : State) (which : FeedArea) (a : Area) (buffer : BufId) (place : FaultPlace) : State :=
  (s.withFeed { s.feed.setArea which (a.faulted place) with faults := saturate16 s.feed.faults }).postAll
    (.feedFault which buffer place.line) none

/-- The area has pinned that buffer and has taken no fault in this output frame (R100; log 13). -/
def Area.faultDue (a : Area) (buffer : BufId) : Bool := decide (a.pin = some buffer ∧ a.fault = none)

/-- FEED_READ_FAULT (R100; log 4, log 13). -/
def execFeedReadFault (area : FeedArea) (buffer : BufId) (line pair : Nat) (s : State) :
    Host.Outcome State Fault Refusal :=
  .next (match s.area? area with
    | some a => if a.faultDue buffer then s.readFault area a buffer { line := line, pair := pair } else s
    | none => s)

end Sys2Proof.Machine
end

