-- ==== Sys2Proof/Machine/Tenancy.lean ====
section
/-! DEFINITION. Tenancy: the requests to the view tenancy unit and its share of a millisecond tick (06_view_tenancy.md).
-/
namespace Sys2Proof.Machine

/-- The results of CLAIM_VIEW: standing and wait position (R106). -/
def Tenancy.claimResults (t : Tenancy) (p : Port) : List Byte := [byte1 (t.standing p), byte1 (t.position p)]

/-- The wait set with the entry of `w`'s port created or updated, in rank order (R107). -/
def Tenancy.withEntry (t : Tenancy) (order : Nat) (w : Waiter) : Tenancy :=
  { t with waiters := rankSort order (w :: (t.without w.port).waiters) }

/-- The record with the claimant as holder and without its wait entry (R106, R107). -/
def Tenancy.claimed (t : Tenancy) (p : Port) (holdFast singleUse : Bool) : Tenancy :=
  { holder := some p, holdFast := holdFast, singleUse := singleUse, idle := 0, waiters := (t.without p).waiters }

/-- An answer that gives the standing the whole request leaves (R106). -/
def State.claimAnswer (s : State) (p : Port) (status : Status) : Answer :=
  { state := s, status := status, results := s.tenancy.claimResults p }

/-- The claimant outranks the holder and the holder's hold-fast flag is clear (R106). -/
def State.preempts (s : State) (p h : Port) : Bool := outranks s.params.rankOrder p h && !s.tenancy.holdFast

/-- CLAIM_VIEW at the tenancy unit, its cases in order (R106). -/
def State.claim (s : State) (p : Port) (q : Request) : Answer :=
  if 1 < argByte q.args 0 ∨ 1 < argByte q.args 1 ∨ 1 < argByte q.args 2 then .plain s .badArgument
  else
    let holdFast := decide (argByte q.args 1 = 1)
    let singleUse := decide (argByte q.args 2 = 1)
    match s.tenancy.holder with
    | none =>
      State.claimAnswer
        (s.handover { holder := some p, holdFast := holdFast, singleUse := singleUse, idle := 0, waiters := [] } .claim)
        p .ok
    | some h =>
      if h = p then
        (s.withTenancy { s.tenancy with holdFast := holdFast, singleUse := singleUse }).settle.claimAnswer p .ok
      else if s.preempts p h then
        ((s.handover (s.tenancy.claimed p holdFast singleUse) .preempted).post h (.viewLost .preempted p)).settle.claimAnswer
          p .ok
      else if argByte q.args 0 = 1 then
        (s.withTenancy (s.tenancy.withEntry s.params.rankOrder
            { port := p, holdFast := holdFast, singleUse := singleUse })).settle.claimAnswer p .accepted
      else .plain s .busy

/-- RELEASE_VIEW at the tenancy unit (R112). -/
def State.release (s : State) (p : Port) : Answer :=
  let t := if s.tenancy.holder = some p then s.passOn .release else s
  .ok t [byte1 (t.tenancy.standing p)]

/-- WITHDRAW_CLAIM at the tenancy unit (R113). -/
def State.withdraw (s : State) (p : Port) : Answer := .ok (s.withTenancy (s.tenancy.without p)) []

/-- The three bytes of one place of the wait set in TENANCY_READ; the flags of an empty place, which R114 leaves open, are 0 (R114;
log 32). -/
def waiterBytes : Option Waiter → List Byte
  | some w => [byte1 (portNumber w.port), flag1 w.holdFast, flag1 w.singleUse]
  | none => [0, 0, 0]

/-- The results of TENANCY_READ (R114). -/
def State.tenancyResults (s : State) (p : Port) : List Byte :=
  [byte1 (portCode s.tenancy.holder), flag1 s.tenancy.holdFast, flag1 s.tenancy.singleUse] ++ be32 s.tenancy.idle
    ++ [byte1 s.tenancy.waiters.length] ++ waiterBytes s.tenancy.waiters[0]? ++ waiterBytes s.tenancy.waiters[1]?
    ++ [byte1 s.params.rankOrder, byte1 (s.tenancy.standing p)]

/-- The record with its idle time raised (R108). -/
def Tenancy.older (t : Tenancy) : Tenancy :=
  match t.holder with
  | some _ => { t with idle := min 4294967295 (t.idle + 1) }
  | none => t

/-- The tenancy unit at a millisecond tick (R108, R111). -/
def State.tenancyTick (s : State) : State := (s.withTenancy s.tenancy.older).settle

/-! ### Meanings -/

/-- CLAIM_VIEW (R106). -/
def execClaimView (p : Port) (s : State) : Host.Outcome State Fault Refusal := serveOpen 0x10 p (fun q s => s.claim p q) s

/-- RELEASE_VIEW (R112). -/
def execReleaseView (p : Port) (s : State) : Host.Outcome State Fault Refusal := serveOpen 0x11 p (fun _ s => s.release p) s

/-- WITHDRAW_CLAIM (R113). -/
def execWithdrawClaim (p : Port) (s : State) : Host.Outcome State Fault Refusal :=
  serveOpen 0x12 p (fun _ s => s.withdraw p) s

/-- TENANCY_READ (R114). -/
def execTenancyRead (p : Port) (s : State) : Host.Outcome State Fault Refusal :=
  serveOpen 0x13 p (fun _ s => .ok s (s.tenancyResults p)) s

/-- IDLE_YIELD: the tick at which the holder yields by idleness, at the tenancy unit (R108; log 5). -/
def execIdleYield (s : State) : Host.Outcome State Fault Refusal :=
  .next (if s.tenancy.older.due s.params = some .idle then s.tenancyTick else s)

end Sys2Proof.Machine
end

