-- ==== Sys2Proof/Machine/Ports.lean ====
section
/-! DEFINITION. Ports: the control ports' own commands (10_control_ports_and_formats.md): WRITE and FETCH transactions,
presence, port reset, the parameters and the part summary, with the part reset and the millisecond tick, which every
block shares.
-/
namespace Sys2Proof.Machine

/-! ### WRITE (R180; log 10) -/

/-- The lowest-numbered FREE slot (R180). -/
def PortRec.freeSlot (r : PortRec) : Option (Fin 4) := (List.finRange 4).find? fun k => (r.slots[k]).isFree

/-- A request message complete up to its last argument byte: the request and the bytes clocked after it (R180, R191). -/
def parseRequest : List Byte → Option (Request × Nat)
  | tag :: code :: n :: rest =>
    if n.toNat ≤ rest.length then
      some ({ tag := tag, code := code, args := rest.take n.toNat }, rest.length - n.toNat)
    else none
  | _ => none

/-- The port as it takes a request, with the acceptance byte (R180). -/
def PortRec.accept (r : PortRec) (q : Request) : PortRec × Status :=
  if r.present = false then (r, .queueFull)
  else if 28 < q.args.length then (r, .badLength)
  else
    match r.freeSlot with
    | none => (r, .queueFull)
    | some k => ({ r with slots := r.slots.set k (.waiting q), order := r.order ++ [k] }, .accepted)

/-- The bytes driven after a message: the acceptance byte, then zeros, as far as the master clocks (R180). -/
def acceptanceBytes (status : Status) (clocked : Nat) : List Byte :=
  (byte1 status.code :: List.replicate (clocked - 1) 0).take clocked

/-- The message of a WRITE transaction as far as it has been clocked: the request is taken, or refused, when its last argument
byte has been received (R180). -/
def PortRec.receive (r : PortRec) (message : List Byte) : PortRec :=
  match parseRequest message with
  | some (q, clocked) =>
    { (r.accept q).1 with
      write := some (.answered (r.accept q).2 clocked), driven := acceptanceBytes (r.accept q).2 clocked }
  | none => { r with write := some (.message message) }

/-! ### FETCH (R182; log 10, log 11) -/

/-- The item chosen when the transaction byte has been received (R182). -/
def PortRec.chooseItem (r : PortRec) : FetchItem :=
  match r.order.find? fun k => (r.slots[k]).isReplied with
  | some k => .reply k
  | none => if r.notices.isEmpty then .none else .notice

/-- The bytes an item is driven as (R182, R191). -/
def PortRec.imageOf (r : PortRec) (item : FetchItem) : List Byte :=
  match item with
  | .reply k =>
    match r.slots[k] with
    | .replied reply => replyImage reply
    | _ => [0]
  | .notice =>
    match r.notices with
    | n :: _ => noticeImage n r.lost
    | [] => [0]
  | .none => [0]

/-- A FETCH transaction opened (R182). -/
def PortRec.openFetch (r : PortRec) : PortRec :=
  { r with
    driven := [], write := none
    fetch := some { item := r.chooseItem, image := r.imageOf r.chooseItem, sent := 0, dropped := false, live := true
                    taken := false } }

/-- The chosen item removed from the port (R182). -/
def PortRec.removeItem (r : PortRec) (item : FetchItem) (dropped : Bool) : PortRec :=
  match item with
  | .reply k => { r with slots := r.slots.set k .free, order := r.order.filter fun j => decide (j ≠ k) }
  | .notice => { r with notices := r.notices.tail, lost := r.lost && dropped }
  | .none => r

/-- The bytes a FETCH drives for `count` more clocks: its item, and zeros after it (R182). -/
def Fetch.drive (f : Fetch) (count : Nat) : List Byte :=
  (f.image.drop f.sent).take count ++ List.replicate (count - (f.image.length - f.sent)) 0

/-- The clocks reach the item's last byte, and the item still waits to be removed (R182). -/
def Fetch.finishes (f : Fetch) (count : Nat) : Bool := f.live && decide (f.image.length ≤ f.sent + count)

/-- The transaction after the clocks (R182). -/
def Fetch.after (f : Fetch) (count : Nat) : Fetch :=
  if f.finishes count then { f with sent := f.sent + count, live := false, taken := decide (f.item ≠ .none) }
  else { f with sent := f.sent + count }

/-- `count` bytes clocked out of a port in a FETCH; with no transaction in progress, as after a part reset, every byte reads
00h (R182, R190; log 10). -/
def PortRec.drive (r : PortRec) (count : Nat) : PortRec :=
  match r.fetch with
  | none => { r with driven := r.driven ++ List.replicate count 0 }
  | some f =>
    let t := if f.finishes count then r.removeItem f.item f.dropped else r
    { t with driven := r.driven ++ f.drive count, fetch := some (f.after count) }

/-! ### Transactions, event by event (R180, R182, R191; log 10) -/

/-- The master selects the port, which begins a transaction (R191). -/
def PortRec.select (r : PortRec) : PortRec := { r with fetch := none, write := some .opened, driven := [] }

/-- The master deselects the port, which ends the transaction (R191). -/
def PortRec.deselect (r : PortRec) : PortRec := { r with fetch := none, write := none }

/-- The first bytes of a transaction: 01h makes it a WRITE, 02h a FETCH, and with any other the port ignores it and drives
zeros (R180, R182). -/
def PortRec.firstBytes (r : PortRec) : List Byte → PortRec
  | [] => r
  | first :: rest =>
    if first = 1 then r.receive rest
    else if first = 2 then r.openFetch.drive rest.length
    else { r with write := some .ignored, driven := List.replicate rest.length 0 }

/-- More bytes clocked in a transaction that is not a FETCH: of the message, after it, or of a transaction ignored (R180). -/
def PortRec.writeBytes (r : PortRec) (bytes : List Byte) : Writing → PortRec
  | .opened => r.firstBytes bytes
  | .message sofar => r.receive (sofar ++ bytes)
  | .answered status clocked =>
    { r with
      write := some (.answered status (clocked + bytes.length))
      driven := r.driven ++ (acceptanceBytes status (clocked + bytes.length)).drop clocked }
  | .ignored => { r with driven := r.driven ++ List.replicate bytes.length 0 }

/-- Bytes clocked by the master in whatever transaction is in progress (R180, R182, R190, R191). -/
def PortRec.clock (r : PortRec) (bytes : List Byte) : PortRec :=
  match r.fetch, r.write with
  | none, some w => r.writeBytes bytes w
  | _, _ => r.drive bytes.length

/-- A whole transaction with these bytes clocked (R191). -/
def PortRec.transaction (r : PortRec) (bytes : List Byte) : PortRec := (r.select.clock bytes).deselect

/-- A WRITE transaction, or one of its events (R180, R191). -/
def PortRec.writePart (r : PortRec) : WritePart → PortRec
  | .whole bytes => r.transaction bytes
  | .select => r.select
  | .clock bytes => r.clock bytes
  | .deselect => r.deselect

/-- A whole FETCH transaction with `clocked` bytes after the transaction byte (R182). -/
def PortRec.wholeFetch (r : PortRec) (clocked : Nat) : PortRec := (r.openFetch.drive clocked).deselect

/-- A part of a FETCH transaction (R182, R191); what the master sends while it clocks is not looked at, and stands as zeros. -/
def PortRec.fetchPart (r : PortRec) : FetchPart → PortRec
  | .whole clocked => r.wholeFetch clocked
  | .choose => r.openFetch
  | .clock count => r.clock (List.replicate count 0)
  | .deselect => r.deselect

/-- REQUEST_WRITE (R180). -/
def execRequestWrite (p : Port) (part : WritePart) (s : State) : Host.Outcome State Fault Refusal :=
  .next (s.setPort p ((s.port p).writePart part))

/-- FETCH (R182). -/
def execFetch (p : Port) (part : FetchPart) (s : State) : Host.Outcome State Fault Refusal :=
  .next (s.setPort p ((s.port p).fetchPart part))

/-! ### Requests the port answers itself (R181, R185) -/

/-- UNKNOWN_REQUEST_CODE (R181). -/
def execUnknownRequestCode (p : Port) (s : State) : Host.Outcome State Fault Refusal :=
  .next (match (s.port p).current with
    | none => s
    | some (k, q) => if codeKnown q.code then s else s.reply p k q .unknownRequest [])

/-- PORT_RESET at the port: its own slot is kept (R185). -/
def State.resetOwn (s : State) (p : Port) : Answer :=
  .ok (s.portReset p ((s.port p).current.map fun x => x.1)) []

/-- PORT_RESET (R185). -/
def execPortReset (p : Port) (s : State) : Host.Outcome State Fault Refusal := serveOpen 0x04 p (fun _ s => s.resetOwn p) s

/-! ### Presence (R184, R166) -/

/-- The presence line becomes absent: recorded, a WRITE in progress cut short, port reset, and for the recorder the halt of the
export link (R166, R180, R184; log 6). -/
def State.lose (s : State) (p : Port) : State :=
  let t := (s.setPort p { s.port p with present := false, write := none }).portReset p none
  if p = .recorder then t.halt .linkDown else t

/-- PRESENCE_LOST (R184; log 24). -/
def execPresenceLost (p : Port) (s : State) : Host.Outcome State Fault Refusal :=
  .next (if (s.port p).present then s.lose p else s)

/-- PRESENCE_RESTORED (R184). -/
def execPresenceRestored (p : Port) (s : State) : Host.Outcome State Fault Refusal :=
  .next (s.setPort p { s.port p with present := true })

/-! ### Parameters (R187, R188) -/

/-- The value an enumeration keeps: none when it lies outside 0 to `top` (R188). -/
def enumValue (top value : Nat) : Option Nat := if value ≤ top then some value else none

/-- The value TIMED_CAPTURE_INTERVAL keeps (R151, R187). -/
def intervalKept (value : Nat) : Nat := if value = 0 then 0 else clampNat 5 600 value

/-- The value MOTION_LOW keeps below MOTION_HIGH (R51). -/
def motionLowKept (high value : Nat) : Nat := min (clampNat 0 254 value) (high - 1)

/-- The parameters with the one named written, and the value kept; none for a parameter or a value that is answered
BAD_ARGUMENT, and for NOTICE_MASK, which each port keeps (R187, R188). -/
def Params.write (ps : Params) (id value : Nat) : Option (Params × Nat) :=
  match id with
  | 0x01 => let v := clampNat 5 240 value; some ({ ps with stallLimit := v }, v)
  | 0x02 => let v := clampNat 0 63 value; some ({ ps with clarityGain := v }, v)
  | 0x03 => let v := clampNat 0 31 value; some ({ ps with clarityCore := v }, v)
  | 0x04 => let v := clampNat 16 240 value; some ({ ps with exposureTarget := v }, v)
  | 0x05 => let v := clampNat 0 32 value; some ({ ps with exposureDeadband := v }, v)
  | 0x06 => let v := clampNat 1 255 value; some ({ ps with motionHigh := v, motionLow := min ps.motionLow (v - 1) }, v)
  | 0x07 => let v := motionLowKept ps.motionHigh value; some ({ ps with motionLow := v }, v)
  | 0x08 => let v := clampNat 1 30 value; some ({ ps with settleFrames := v }, v)
  | 0x09 => (enumValue 5 value).map fun v => ({ ps with rankOrder := v }, v)
  | 0x0A => let v := clampNat 0 60000 value; some ({ ps with yieldDelay := v }, v)
  | 0x0B => let v := clampNat 0 3600 value; some ({ ps with holdFastLimit := v }, v)
  | 0x0C => (enumValue 1 value).map fun v => ({ ps with pageTurnCapture := decide (v = 1) }, v)
  | 0x0D => let v := clampNat 0 64 value; some ({ ps with duplicateLimit := v }, v)
  | 0x0E => let v := intervalKept value; some ({ ps with timedInterval := v }, v)
  | 0x0F => let v := clampNat 10 1000 value; some ({ ps with exportTimeout := v }, v)
  | 0x10 => let v := clampNat 1 256 value; some ({ ps with readyCount := v }, v)
  | 0x11 => let v := clampNat 100 60000 value; some ({ ps with readyAge := v }, v)
  | _ => none

/-- The value of the parameter named, if it is one of the part (R187). -/
def Params.read (ps : Params) : Nat → Option Nat
  | 0x01 => some ps.stallLimit
  | 0x02 => some ps.clarityGain
  | 0x03 => some ps.clarityCore
  | 0x04 => some ps.exposureTarget
  | 0x05 => some ps.exposureDeadband
  | 0x06 => some ps.motionHigh
  | 0x07 => some ps.motionLow
  | 0x08 => some ps.settleFrames
  | 0x09 => some ps.rankOrder
  | 0x0A => some ps.yieldDelay
  | 0x0B => some ps.holdFastLimit
  | 0x0C => some (if ps.pageTurnCapture then 1 else 0)
  | 0x0D => some ps.duplicateLimit
  | 0x0E => some ps.timedInterval
  | 0x0F => some ps.exportTimeout
  | 0x10 => some ps.readyCount
  | 0x11 => some ps.readyAge
  | _ => none

/-- The owner acts on a parameter written: the tenancy unit re-sorts its wait set and evaluates, and the lesson clock
clears its timed counter at an interval of 0 (R103, R109, R111, R151). -/
def State.ownerActs (s : State) (id kept : Nat) : State :=
  match id with
  | 0x09 => (s.withTenancy { s.tenancy with waiters := rankSort s.params.rankOrder s.tenancy.waiters }).settle
  | 0x0A => s.settle
  | 0x0B => s.settle
  | 0x0E => if kept = 0 then s.withLesson { s.lesson with timed := 0 } else s
  | _ => s

/-- A port with its notice mask written (R187). -/
def PortRec.withMask (r : PortRec) (value : Nat) : PortRec := { r with mask := BitVec.ofNat 5 value }

/-- SET_PARAM, its cases (R188). -/
def State.setParam (s : State) (p : Port) (q : Request) : Answer :=
  let id := argByte q.args 0
  let value := argU32 q.args 1
  if id = 0x12 then
    if value ≤ 31 then .ok (s.setPort p ((s.port p).withMask value)) (be32 value) else .plain s .badArgument
  else
    match s.params.write id value with
    | some (params, kept) => .ok ((s.withParams params).ownerActs id kept) (be32 kept)
    | none => .plain s .badArgument

/-- GET_PARAM, its cases (R188). -/
def State.getParam (s : State) (p : Port) (q : Request) : Answer :=
  let id := argByte q.args 0
  if id = 0x12 then .ok s (be32 (s.port p).mask.toNat)
  else
    match s.params.read id with
    | some value => .ok s (be32 value)
    | none => .plain s .badArgument

/-- SET_PARAM (R188). -/
def execSetParam (p : Port) (s : State) : Host.Outcome State Fault Refusal :=
  serveOpen 0x02 p (fun q s => s.setParam p q) s

/-- GET_PARAM (R188). -/
def execGetParam (p : Port) (s : State) : Host.Outcome State Fault Refusal :=
  serveOpen 0x03 p (fun q s => s.getParam p q) s

/-! ### The part summary (R189) -/

/-- The number of records in the state with a given code (R189). -/
def Store.countState (st : Store) (code : Nat) : Nat :=
  ((List.finRange 20).filter fun k => decide ((st.page k).stateCode = code)).length

/-- What a block answers to PART_READ, as it stands (R189). -/
def State.blockSummary (s : State) : SummaryBlock → List Byte
  | .intake => [byte1 s.intake.state.code, flag1 s.intake.stalled]
  | .feed => [byte1 s.feed.state.code, byte1 s.feed.mode.code]
  | .tenancy => [byte1 (portCode s.tenancy.holder)]
  | .lesson => s.lesson.results
  | .store => [byte1 (s.store.countState 2), byte1 (s.store.countState 1), byte1 (s.store.countState 3)]
  | .pool => [byte1 s.pool.ring.length, byte1 s.pool.freeCount]
  | .link => [byte1 s.link.state.code]

/-- The blocks in the order of their fields in the summary (R189). -/
def summaryBlocks : List SummaryBlock := [.intake, .feed, .tenancy, .lesson, .store, .pool, .link]

/-- What a block has answered to the PART_READ that the port hands on, if it has (R189; log 27). -/
def PortRec.answerOf (r : PortRec) (b : SummaryBlock) : Option (List Byte) :=
  (r.answers.find? fun a => decide (a.block = b)).map fun a => a.bytes

/-- The results of PART_READ: of each block what it has answered, else what it answers now (R189; log 27). -/
def State.partResults (s : State) (p : Port) : List Byte :=
  [byte1 (portNumber p)] ++ summaryBlocks.flatMap fun b => ((s.port p).answerOf b).getD (s.blockSummary b)

/-- The port with its PART_READ of slot `k` EXECUTING and one more block's answer (R181, R189; log 27). -/
def PortRec.answered (r : PortRec) (k : Fin 4) (q : Request) (a : BlockAnswer) : PortRec :=
  { r with slots := r.slots.set k (.executing q), answers := r.answers ++ [a] }

/-- A block answers the PART_READ that port `p` hands on, once (R189; log 27). -/
def State.askBlock (s : State) (p : Port) (b : SummaryBlock) : State :=
  match (s.port p).current with
  | none => s
  | some (k, q) =>
    if q.hasCode 0x01 && lengthAllowed q && ((s.port p).answerOf b).isNone then
      s.setPort p ((s.port p).answered k q { block := b, bytes := s.blockSummary b })
    else s

/-- The port once the summary has been made of its answers (R189; log 27). -/
def State.dropAnswers (s : State) (p : Port) : State := s.setPort p { s.port p with answers := [] }

/-- PART_READ: a block's answer, or the answers that are left and the reply (R189; log 27). -/
def execPartRead (p : Port) (s : State) (part : SummaryPart := .rest) : Host.Outcome State Fault Refusal :=
  match part with
  | .ask block => .next (s.askBlock p block)
  | .rest => serveOpen 0x01 p (fun _ s => .ok (s.dropAnswers p) (s.partResults p)) s

/-! ### Part reset and the millisecond tick -/

/-- The part after a part reset with the input lines at the given levels: every block as after reset, the frame memory and
the waiting commands kept (R1, R16, R36, R55, R56, R81, R101, R119, R142, R160, R178, R190; log 23). -/
def State.afterReset (s : State) (sense panel desk recorder : Bool) : State :=
  { mem := s.mem, timer := 0, pool := Pool.reset, intake := Intake.reset, light := Light.reset, motion := Motion.reset
    view := View.reset, feed := Feed.reset sense, tenancy := Tenancy.reset, store := Store.reset
    lesson := Lesson.reset, timeline := Timeline.reset, link := Link.reset, params := Params.reset
    ports := { panel := PortRec.reset panel, desk := PortRec.reset desk, recorder := PortRec.reset recorder }
    pending := s.pending }

/-- PART_RESET (R190). -/
def execPartReset (sense panel desk recorder : Bool) (s : State) : Host.Outcome State Fault Refusal :=
  .next (s.afterReset sense panel desk recorder)

/-- The timeline's millisecond count raised (R152). -/
def State.timelineTick (s : State) : State := s.withTimeline { s.timeline with ms := s.timeline.ms + 1 }

/-- MILLISECOND_TICK: the tenancy unit, the lesson clock, the timeline and the export link unit take the tick (R108, R144,
R152, R165; log 6, log 17). -/
def execMillisecondTick (s : State) (pause : Option Port := none) : Host.Outcome State Fault Refusal :=
  .next ((s.tenancyTick.clockTick pause).timelineTick.linkTick)

end Sys2Proof.Machine
end

