-- ==== Sys2Proof/Machine/Dispatch.lean ====
section
/-! DEFINITION. Dispatch: one arm per command, each one direct call of its meaning.
-/
namespace Sys2Proof.Machine

def exec (i : Instr) (s : State) : Host.Outcome State Fault Refusal :=
  match i with
  | .partReset sense panel desk recorder => Sys2Proof.Machine.execPartReset sense panel desk recorder s
  | .requestWrite p part => Sys2Proof.Machine.execRequestWrite p part s
  | .fetch p part => Sys2Proof.Machine.execFetch p part s
  | .unknownRequestCode p => Sys2Proof.Machine.execUnknownRequestCode p s
  | .presenceLost p => Sys2Proof.Machine.execPresenceLost p s
  | .presenceRestored p => Sys2Proof.Machine.execPresenceRestored p s
  | .partRead p part => Sys2Proof.Machine.execPartRead p s part
  | .setParam p => Sys2Proof.Machine.execSetParam p s
  | .getParam p => Sys2Proof.Machine.execGetParam p s
  | .portReset p => Sys2Proof.Machine.execPortReset p s
  | .claimView p => Sys2Proof.Machine.execClaimView p s
  | .releaseView p => Sys2Proof.Machine.execReleaseView p s
  | .withdrawClaim p => Sys2Proof.Machine.execWithdrawClaim p s
  | .tenancyRead p => Sys2Proof.Machine.execTenancyRead p s
  | .idleYield => Sys2Proof.Machine.execIdleYield s
  | .zoomTo p => Sys2Proof.Machine.execZoomTo p s
  | .zoomBy p => Sys2Proof.Machine.execZoomBy p s
  | .panTo p => Sys2Proof.Machine.execPanTo p s
  | .panBy p => Sys2Proof.Machine.execPanBy p s
  | .setSource p => Sys2Proof.Machine.execSetSource p s
  | .freeze p => Sys2Proof.Machine.execFreeze p s
  | .unfreeze p => Sys2Proof.Machine.execUnfreeze p s
  | .blank p => Sys2Proof.Machine.execBlank p s
  | .unblank p => Sys2Proof.Machine.execUnblank p s
  | .viewRead p => Sys2Proof.Machine.execViewRead p s
  | .setClarity p => Sys2Proof.Machine.execSetClarity p s
  | .setExposure p => Sys2Proof.Machine.execSetExposure p s
  | .setLamp p => Sys2Proof.Machine.execSetLamp p s
  | .pictureRead p => Sys2Proof.Machine.execPictureRead p s
  | .setOutputMode p => Sys2Proof.Machine.execSetOutputMode p s
  | .feedRead p => Sys2Proof.Machine.execFeedRead p s
  | .captureNow p => Sys2Proof.Machine.execCaptureNow p s
  | .captureNext p => Sys2Proof.Machine.execCaptureNext p s
  | .discard p => Sys2Proof.Machine.execDiscard p s
  | .label p => Sys2Proof.Machine.execLabel p s
  | .pageRead p => Sys2Proof.Machine.execPageRead p s
  | .thumbRead p => Sys2Proof.Machine.execThumbRead p s
  | .lessonStart p => Sys2Proof.Machine.execLessonStart p s
  | .lessonPause p => Sys2Proof.Machine.execLessonPause p s
  | .lessonResume p => Sys2Proof.Machine.execLessonResume p s
  | .lessonEnd p => Sys2Proof.Machine.execLessonEnd p s
  | .lessonClear p => Sys2Proof.Machine.execLessonClear p s
  | .lessonRead p => Sys2Proof.Machine.execLessonRead p s
  | .exportPage p => Sys2Proof.Machine.execExportPage p s
  | .exportStop p => Sys2Proof.Machine.execExportStop p s
  | .exportContinue p => Sys2Proof.Machine.execExportContinue p s
  | .exportResume p => Sys2Proof.Machine.execExportResume p s
  | .exportRead p => Sys2Proof.Machine.execExportRead p s
  | .sensorFrameStart elapsed => Sys2Proof.Machine.execSensorFrameStart elapsed s
  | .sensorLineStart => Sys2Proof.Machine.execSensorLineStart s
  | .sensorPixelPair pair => Sys2Proof.Machine.execSensorPixelPair pair s
  | .sensorLineEnd => Sys2Proof.Machine.execSensorLineEnd s
  | .sensorFrameEnd => Sys2Proof.Machine.execSensorFrameEnd s
  | .frameCompletion => Sys2Proof.Machine.execFrameCompletion s
  | .intakeWriteFault buffer => Sys2Proof.Machine.execIntakeWriteFault buffer s
  | .stallEvent => Sys2Proof.Machine.execStallEvent s
  | .lightFrameReport => Sys2Proof.Machine.execLightFrameReport s
  | .autoLampStep => Sys2Proof.Machine.execAutoLampStep s
  | .motionFrameReport => Sys2Proof.Machine.execMotionFrameReport s
  | .detectorFire => Sys2Proof.Machine.execDetectorFire s
  | .pageStoreFrameReport => Sys2Proof.Machine.execPageStoreFrameReport s
  | .outputFrameStart => Sys2Proof.Machine.execOutputFrameStart s
  | .feedStarted => Sys2Proof.Machine.execFeedStarted s
  | .sensePresent => Sys2Proof.Machine.execSensePresent s
  | .senseAbsent => Sys2Proof.Machine.execSenseAbsent s
  | .feedReadFault area buffer line pair => Sys2Proof.Machine.execFeedReadFault area buffer line pair s
  | .millisecondTick pause => Sys2Proof.Machine.execMillisecondTick s pause
  | .clockCentisecond pause => Sys2Proof.Machine.execClockCentisecond s pause
  | .timedCaptureExpiry pause => Sys2Proof.Machine.execTimedCaptureExpiry s pause
  | .lampPulseStart => Sys2Proof.Machine.execLampPulseStart s
  | .lampOnTimeEnd => Sys2Proof.Machine.execLampOnTimeEnd s
  | .exportPull part => Sys2Proof.Machine.execExportPull s part
  | .exportDeliveryCompleted => Sys2Proof.Machine.execExportDeliveryCompleted s
  | .exportDeliveryTimeout => Sys2Proof.Machine.execExportDeliveryTimeout s
  | .exportLinkError => Sys2Proof.Machine.execExportLinkError s
  | .exportMemoryFault channel buffer => Sys2Proof.Machine.execExportMemoryFault channel buffer s

end Sys2Proof.Machine
end

