-- ==== Sys2Proof/Machine/Step.lean ====
section
/-! DEFINITION. Step: one step takes the command at the front of the queue and runs exec on it with the queue's rest; with an
empty queue one microsecond passes (log 3, log 18).
-/
namespace Sys2Proof.Machine

/-- One step of the part. -/
def step (s : State) : Host.Outcome State Fault Refusal :=
  match s.pending with
  | [] => .next s.microsecond
  | c :: rest => exec c (s.withPending rest)

/-- `s` with the command a word spells at the front of its queue; no word spells one (log 18). -/
def State.withFetchWord (s : State) (nbits w : Nat) : State :=
  match decodeTableWord nbits w with
  | some c => s.withPending (c :: s.pending)
  | none => s

end Sys2Proof.Machine
end

