-- ==== Sys2Proof/Laws/State.lean ====
section
/-! SUPPORT. State laws: what each field of State reads after each update of one field, true by definition.
-/
namespace Sys2Proof.Machine

@[simp] theorem State.mem_withMem (s : State) (x : List Host.Cell) : (s.withMem x).mem = x := rfl
@[simp] theorem State.timer_withMem (s : State) (x : List Host.Cell) : (s.withMem x).timer = s.timer := rfl
@[simp] theorem State.pool_withMem (s : State) (x : List Host.Cell) : (s.withMem x).pool = s.pool := rfl
@[simp] theorem State.intake_withMem (s : State) (x : List Host.Cell) : (s.withMem x).intake = s.intake := rfl
@[simp] theorem State.light_withMem (s : State) (x : List Host.Cell) : (s.withMem x).light = s.light := rfl
@[simp] theorem State.motion_withMem (s : State) (x : List Host.Cell) : (s.withMem x).motion = s.motion := rfl
@[simp] theorem State.view_withMem (s : State) (x : List Host.Cell) : (s.withMem x).view = s.view := rfl
@[simp] theorem State.feed_withMem (s : State) (x : List Host.Cell) : (s.withMem x).feed = s.feed := rfl
@[simp] theorem State.tenancy_withMem (s : State) (x : List Host.Cell) : (s.withMem x).tenancy = s.tenancy := rfl
@[simp] theorem State.store_withMem (s : State) (x : List Host.Cell) : (s.withMem x).store = s.store := rfl
@[simp] theorem State.lesson_withMem (s : State) (x : List Host.Cell) : (s.withMem x).lesson = s.lesson := rfl
@[simp] theorem State.timeline_withMem (s : State) (x : List Host.Cell) : (s.withMem x).timeline = s.timeline := rfl
@[simp] theorem State.link_withMem (s : State) (x : List Host.Cell) : (s.withMem x).link = s.link := rfl
@[simp] theorem State.params_withMem (s : State) (x : List Host.Cell) : (s.withMem x).params = s.params := rfl
@[simp] theorem State.ports_withMem (s : State) (x : List Host.Cell) : (s.withMem x).ports = s.ports := rfl
@[simp] theorem State.pending_withMem (s : State) (x : List Host.Cell) : (s.withMem x).pending = s.pending := rfl
@[simp] theorem State.mem_withTimer (s : State) (x : Word) : (s.withTimer x).mem = s.mem := rfl
@[simp] theorem State.timer_withTimer (s : State) (x : Word) : (s.withTimer x).timer = x := rfl
@[simp] theorem State.pool_withTimer (s : State) (x : Word) : (s.withTimer x).pool = s.pool := rfl
@[simp] theorem State.intake_withTimer (s : State) (x : Word) : (s.withTimer x).intake = s.intake := rfl
@[simp] theorem State.light_withTimer (s : State) (x : Word) : (s.withTimer x).light = s.light := rfl
@[simp] theorem State.motion_withTimer (s : State) (x : Word) : (s.withTimer x).motion = s.motion := rfl
@[simp] theorem State.view_withTimer (s : State) (x : Word) : (s.withTimer x).view = s.view := rfl
@[simp] theorem State.feed_withTimer (s : State) (x : Word) : (s.withTimer x).feed = s.feed := rfl
@[simp] theorem State.tenancy_withTimer (s : State) (x : Word) : (s.withTimer x).tenancy = s.tenancy := rfl
@[simp] theorem State.store_withTimer (s : State) (x : Word) : (s.withTimer x).store = s.store := rfl
@[simp] theorem State.lesson_withTimer (s : State) (x : Word) : (s.withTimer x).lesson = s.lesson := rfl
@[simp] theorem State.timeline_withTimer (s : State) (x : Word) : (s.withTimer x).timeline = s.timeline := rfl
@[simp] theorem State.link_withTimer (s : State) (x : Word) : (s.withTimer x).link = s.link := rfl
@[simp] theorem State.params_withTimer (s : State) (x : Word) : (s.withTimer x).params = s.params := rfl
@[simp] theorem State.ports_withTimer (s : State) (x : Word) : (s.withTimer x).ports = s.ports := rfl
@[simp] theorem State.pending_withTimer (s : State) (x : Word) : (s.withTimer x).pending = s.pending := rfl
@[simp] theorem State.mem_withPool (s : State) (x : Pool) : (s.withPool x).mem = s.mem := rfl
@[simp] theorem State.timer_withPool (s : State) (x : Pool) : (s.withPool x).timer = s.timer := rfl
@[simp] theorem State.pool_withPool (s : State) (x : Pool) : (s.withPool x).pool = x := rfl
@[simp] theorem State.intake_withPool (s : State) (x : Pool) : (s.withPool x).intake = s.intake := rfl
@[simp] theorem State.light_withPool (s : State) (x : Pool) : (s.withPool x).light = s.light := rfl
@[simp] theorem State.motion_withPool (s : State) (x : Pool) : (s.withPool x).motion = s.motion := rfl
@[simp] theorem State.view_withPool (s : State) (x : Pool) : (s.withPool x).view = s.view := rfl
@[simp] theorem State.feed_withPool (s : State) (x : Pool) : (s.withPool x).feed = s.feed := rfl
@[simp] theorem State.tenancy_withPool (s : State) (x : Pool) : (s.withPool x).tenancy = s.tenancy := rfl
@[simp] theorem State.store_withPool (s : State) (x : Pool) : (s.withPool x).store = s.store := rfl
@[simp] theorem State.lesson_withPool (s : State) (x : Pool) : (s.withPool x).lesson = s.lesson := rfl
@[simp] theorem State.timeline_withPool (s : State) (x : Pool) : (s.withPool x).timeline = s.timeline := rfl
@[simp] theorem State.link_withPool (s : State) (x : Pool) : (s.withPool x).link = s.link := rfl
@[simp] theorem State.params_withPool (s : State) (x : Pool) : (s.withPool x).params = s.params := rfl
@[simp] theorem State.ports_withPool (s : State) (x : Pool) : (s.withPool x).ports = s.ports := rfl
@[simp] theorem State.pending_withPool (s : State) (x : Pool) : (s.withPool x).pending = s.pending := rfl
@[simp] theorem State.mem_withIntake (s : State) (x : Intake) : (s.withIntake x).mem = s.mem := rfl
@[simp] theorem State.timer_withIntake (s : State) (x : Intake) : (s.withIntake x).timer = s.timer := rfl
@[simp] theorem State.pool_withIntake (s : State) (x : Intake) : (s.withIntake x).pool = s.pool := rfl
@[simp] theorem State.intake_withIntake (s : State) (x : Intake) : (s.withIntake x).intake = x := rfl
@[simp] theorem State.light_withIntake (s : State) (x : Intake) : (s.withIntake x).light = s.light := rfl
@[simp] theorem State.motion_withIntake (s : State) (x : Intake) : (s.withIntake x).motion = s.motion := rfl
@[simp] theorem State.view_withIntake (s : State) (x : Intake) : (s.withIntake x).view = s.view := rfl
@[simp] theorem State.feed_withIntake (s : State) (x : Intake) : (s.withIntake x).feed = s.feed := rfl
@[simp] theorem State.tenancy_withIntake (s : State) (x : Intake) : (s.withIntake x).tenancy = s.tenancy := rfl
@[simp] theorem State.store_withIntake (s : State) (x : Intake) : (s.withIntake x).store = s.store := rfl
@[simp] theorem State.lesson_withIntake (s : State) (x : Intake) : (s.withIntake x).lesson = s.lesson := rfl
@[simp] theorem State.timeline_withIntake (s : State) (x : Intake) : (s.withIntake x).timeline = s.timeline := rfl
@[simp] theorem State.link_withIntake (s : State) (x : Intake) : (s.withIntake x).link = s.link := rfl
@[simp] theorem State.params_withIntake (s : State) (x : Intake) : (s.withIntake x).params = s.params := rfl
@[simp] theorem State.ports_withIntake (s : State) (x : Intake) : (s.withIntake x).ports = s.ports := rfl
@[simp] theorem State.pending_withIntake (s : State) (x : Intake) : (s.withIntake x).pending = s.pending := rfl
@[simp] theorem State.mem_withLight (s : State) (x : Light) : (s.withLight x).mem = s.mem := rfl
@[simp] theorem State.timer_withLight (s : State) (x : Light) : (s.withLight x).timer = s.timer := rfl
@[simp] theorem State.pool_withLight (s : State) (x : Light) : (s.withLight x).pool = s.pool := rfl
@[simp] theorem State.intake_withLight (s : State) (x : Light) : (s.withLight x).intake = s.intake := rfl
@[simp] theorem State.light_withLight (s : State) (x : Light) : (s.withLight x).light = x := rfl
@[simp] theorem State.motion_withLight (s : State) (x : Light) : (s.withLight x).motion = s.motion := rfl
@[simp] theorem State.view_withLight (s : State) (x : Light) : (s.withLight x).view = s.view := rfl
@[simp] theorem State.feed_withLight (s : State) (x : Light) : (s.withLight x).feed = s.feed := rfl
@[simp] theorem State.tenancy_withLight (s : State) (x : Light) : (s.withLight x).tenancy = s.tenancy := rfl
@[simp] theorem State.store_withLight (s : State) (x : Light) : (s.withLight x).store = s.store := rfl
@[simp] theorem State.lesson_withLight (s : State) (x : Light) : (s.withLight x).lesson = s.lesson := rfl
@[simp] theorem State.timeline_withLight (s : State) (x : Light) : (s.withLight x).timeline = s.timeline := rfl
@[simp] theorem State.link_withLight (s : State) (x : Light) : (s.withLight x).link = s.link := rfl
@[simp] theorem State.params_withLight (s : State) (x : Light) : (s.withLight x).params = s.params := rfl
@[simp] theorem State.ports_withLight (s : State) (x : Light) : (s.withLight x).ports = s.ports := rfl
@[simp] theorem State.pending_withLight (s : State) (x : Light) : (s.withLight x).pending = s.pending := rfl
@[simp] theorem State.mem_withMotion (s : State) (x : Motion) : (s.withMotion x).mem = s.mem := rfl
@[simp] theorem State.timer_withMotion (s : State) (x : Motion) : (s.withMotion x).timer = s.timer := rfl
@[simp] theorem State.pool_withMotion (s : State) (x : Motion) : (s.withMotion x).pool = s.pool := rfl
@[simp] theorem State.intake_withMotion (s : State) (x : Motion) : (s.withMotion x).intake = s.intake := rfl
@[simp] theorem State.light_withMotion (s : State) (x : Motion) : (s.withMotion x).light = s.light := rfl
@[simp] theorem State.motion_withMotion (s : State) (x : Motion) : (s.withMotion x).motion = x := rfl
@[simp] theorem State.view_withMotion (s : State) (x : Motion) : (s.withMotion x).view = s.view := rfl
@[simp] theorem State.feed_withMotion (s : State) (x : Motion) : (s.withMotion x).feed = s.feed := rfl
@[simp] theorem State.tenancy_withMotion (s : State) (x : Motion) : (s.withMotion x).tenancy = s.tenancy := rfl
@[simp] theorem State.store_withMotion (s : State) (x : Motion) : (s.withMotion x).store = s.store := rfl
@[simp] theorem State.lesson_withMotion (s : State) (x : Motion) : (s.withMotion x).lesson = s.lesson := rfl
@[simp] theorem State.timeline_withMotion (s : State) (x : Motion) : (s.withMotion x).timeline = s.timeline := rfl
@[simp] theorem State.link_withMotion (s : State) (x : Motion) : (s.withMotion x).link = s.link := rfl
@[simp] theorem State.params_withMotion (s : State) (x : Motion) : (s.withMotion x).params = s.params := rfl
@[simp] theorem State.ports_withMotion (s : State) (x : Motion) : (s.withMotion x).ports = s.ports := rfl
@[simp] theorem State.pending_withMotion (s : State) (x : Motion) : (s.withMotion x).pending = s.pending := rfl
@[simp] theorem State.mem_withView (s : State) (x : View) : (s.withView x).mem = s.mem := rfl
@[simp] theorem State.timer_withView (s : State) (x : View) : (s.withView x).timer = s.timer := rfl
@[simp] theorem State.pool_withView (s : State) (x : View) : (s.withView x).pool = s.pool := rfl
@[simp] theorem State.intake_withView (s : State) (x : View) : (s.withView x).intake = s.intake := rfl
@[simp] theorem State.light_withView (s : State) (x : View) : (s.withView x).light = s.light := rfl
@[simp] theorem State.motion_withView (s : State) (x : View) : (s.withView x).motion = s.motion := rfl
@[simp] theorem State.view_withView (s : State) (x : View) : (s.withView x).view = x := rfl
@[simp] theorem State.feed_withView (s : State) (x : View) : (s.withView x).feed = s.feed := rfl
@[simp] theorem State.tenancy_withView (s : State) (x : View) : (s.withView x).tenancy = s.tenancy := rfl
@[simp] theorem State.store_withView (s : State) (x : View) : (s.withView x).store = s.store := rfl
@[simp] theorem State.lesson_withView (s : State) (x : View) : (s.withView x).lesson = s.lesson := rfl
@[simp] theorem State.timeline_withView (s : State) (x : View) : (s.withView x).timeline = s.timeline := rfl
@[simp] theorem State.link_withView (s : State) (x : View) : (s.withView x).link = s.link := rfl
@[simp] theorem State.params_withView (s : State) (x : View) : (s.withView x).params = s.params := rfl
@[simp] theorem State.ports_withView (s : State) (x : View) : (s.withView x).ports = s.ports := rfl
@[simp] theorem State.pending_withView (s : State) (x : View) : (s.withView x).pending = s.pending := rfl
@[simp] theorem State.mem_withFeed (s : State) (x : Feed) : (s.withFeed x).mem = s.mem := rfl
@[simp] theorem State.timer_withFeed (s : State) (x : Feed) : (s.withFeed x).timer = s.timer := rfl
@[simp] theorem State.pool_withFeed (s : State) (x : Feed) : (s.withFeed x).pool = s.pool := rfl
@[simp] theorem State.intake_withFeed (s : State) (x : Feed) : (s.withFeed x).intake = s.intake := rfl
@[simp] theorem State.light_withFeed (s : State) (x : Feed) : (s.withFeed x).light = s.light := rfl
@[simp] theorem State.motion_withFeed (s : State) (x : Feed) : (s.withFeed x).motion = s.motion := rfl
@[simp] theorem State.view_withFeed (s : State) (x : Feed) : (s.withFeed x).view = s.view := rfl
@[simp] theorem State.feed_withFeed (s : State) (x : Feed) : (s.withFeed x).feed = x := rfl
@[simp] theorem State.tenancy_withFeed (s : State) (x : Feed) : (s.withFeed x).tenancy = s.tenancy := rfl
@[simp] theorem State.store_withFeed (s : State) (x : Feed) : (s.withFeed x).store = s.store := rfl
@[simp] theorem State.lesson_withFeed (s : State) (x : Feed) : (s.withFeed x).lesson = s.lesson := rfl
@[simp] theorem State.timeline_withFeed (s : State) (x : Feed) : (s.withFeed x).timeline = s.timeline := rfl
@[simp] theorem State.link_withFeed (s : State) (x : Feed) : (s.withFeed x).link = s.link := rfl
@[simp] theorem State.params_withFeed (s : State) (x : Feed) : (s.withFeed x).params = s.params := rfl
@[simp] theorem State.ports_withFeed (s : State) (x : Feed) : (s.withFeed x).ports = s.ports := rfl
@[simp] theorem State.pending_withFeed (s : State) (x : Feed) : (s.withFeed x).pending = s.pending := rfl
@[simp] theorem State.mem_withTenancy (s : State) (x : Tenancy) : (s.withTenancy x).mem = s.mem := rfl
@[simp] theorem State.timer_withTenancy (s : State) (x : Tenancy) : (s.withTenancy x).timer = s.timer := rfl
@[simp] theorem State.pool_withTenancy (s : State) (x : Tenancy) : (s.withTenancy x).pool = s.pool := rfl
@[simp] theorem State.intake_withTenancy (s : State) (x : Tenancy) : (s.withTenancy x).intake = s.intake := rfl
@[simp] theorem State.light_withTenancy (s : State) (x : Tenancy) : (s.withTenancy x).light = s.light := rfl
@[simp] theorem State.motion_withTenancy (s : State) (x : Tenancy) : (s.withTenancy x).motion = s.motion := rfl
@[simp] theorem State.view_withTenancy (s : State) (x : Tenancy) : (s.withTenancy x).view = s.view := rfl
@[simp] theorem State.feed_withTenancy (s : State) (x : Tenancy) : (s.withTenancy x).feed = s.feed := rfl
@[simp] theorem State.tenancy_withTenancy (s : State) (x : Tenancy) : (s.withTenancy x).tenancy = x := rfl
@[simp] theorem State.store_withTenancy (s : State) (x : Tenancy) : (s.withTenancy x).store = s.store := rfl
@[simp] theorem State.lesson_withTenancy (s : State) (x : Tenancy) : (s.withTenancy x).lesson = s.lesson := rfl
@[simp] theorem State.timeline_withTenancy (s : State) (x : Tenancy) : (s.withTenancy x).timeline = s.timeline := rfl
@[simp] theorem State.link_withTenancy (s : State) (x : Tenancy) : (s.withTenancy x).link = s.link := rfl
@[simp] theorem State.params_withTenancy (s : State) (x : Tenancy) : (s.withTenancy x).params = s.params := rfl
@[simp] theorem State.ports_withTenancy (s : State) (x : Tenancy) : (s.withTenancy x).ports = s.ports := rfl
@[simp] theorem State.pending_withTenancy (s : State) (x : Tenancy) : (s.withTenancy x).pending = s.pending := rfl
@[simp] theorem State.mem_withStore (s : State) (x : Store) : (s.withStore x).mem = s.mem := rfl
@[simp] theorem State.timer_withStore (s : State) (x : Store) : (s.withStore x).timer = s.timer := rfl
@[simp] theorem State.pool_withStore (s : State) (x : Store) : (s.withStore x).pool = s.pool := rfl
@[simp] theorem State.intake_withStore (s : State) (x : Store) : (s.withStore x).intake = s.intake := rfl
@[simp] theorem State.light_withStore (s : State) (x : Store) : (s.withStore x).light = s.light := rfl
@[simp] theorem State.motion_withStore (s : State) (x : Store) : (s.withStore x).motion = s.motion := rfl
@[simp] theorem State.view_withStore (s : State) (x : Store) : (s.withStore x).view = s.view := rfl
@[simp] theorem State.feed_withStore (s : State) (x : Store) : (s.withStore x).feed = s.feed := rfl
@[simp] theorem State.tenancy_withStore (s : State) (x : Store) : (s.withStore x).tenancy = s.tenancy := rfl
@[simp] theorem State.store_withStore (s : State) (x : Store) : (s.withStore x).store = x := rfl
@[simp] theorem State.lesson_withStore (s : State) (x : Store) : (s.withStore x).lesson = s.lesson := rfl
@[simp] theorem State.timeline_withStore (s : State) (x : Store) : (s.withStore x).timeline = s.timeline := rfl
@[simp] theorem State.link_withStore (s : State) (x : Store) : (s.withStore x).link = s.link := rfl
@[simp] theorem State.params_withStore (s : State) (x : Store) : (s.withStore x).params = s.params := rfl
@[simp] theorem State.ports_withStore (s : State) (x : Store) : (s.withStore x).ports = s.ports := rfl
@[simp] theorem State.pending_withStore (s : State) (x : Store) : (s.withStore x).pending = s.pending := rfl
@[simp] theorem State.mem_withLesson (s : State) (x : Lesson) : (s.withLesson x).mem = s.mem := rfl
@[simp] theorem State.timer_withLesson (s : State) (x : Lesson) : (s.withLesson x).timer = s.timer := rfl
@[simp] theorem State.pool_withLesson (s : State) (x : Lesson) : (s.withLesson x).pool = s.pool := rfl
@[simp] theorem State.intake_withLesson (s : State) (x : Lesson) : (s.withLesson x).intake = s.intake := rfl
@[simp] theorem State.light_withLesson (s : State) (x : Lesson) : (s.withLesson x).light = s.light := rfl
@[simp] theorem State.motion_withLesson (s : State) (x : Lesson) : (s.withLesson x).motion = s.motion := rfl
@[simp] theorem State.view_withLesson (s : State) (x : Lesson) : (s.withLesson x).view = s.view := rfl
@[simp] theorem State.feed_withLesson (s : State) (x : Lesson) : (s.withLesson x).feed = s.feed := rfl
@[simp] theorem State.tenancy_withLesson (s : State) (x : Lesson) : (s.withLesson x).tenancy = s.tenancy := rfl
@[simp] theorem State.store_withLesson (s : State) (x : Lesson) : (s.withLesson x).store = s.store := rfl
@[simp] theorem State.lesson_withLesson (s : State) (x : Lesson) : (s.withLesson x).lesson = x := rfl
@[simp] theorem State.timeline_withLesson (s : State) (x : Lesson) : (s.withLesson x).timeline = s.timeline := rfl
@[simp] theorem State.link_withLesson (s : State) (x : Lesson) : (s.withLesson x).link = s.link := rfl
@[simp] theorem State.params_withLesson (s : State) (x : Lesson) : (s.withLesson x).params = s.params := rfl
@[simp] theorem State.ports_withLesson (s : State) (x : Lesson) : (s.withLesson x).ports = s.ports := rfl
@[simp] theorem State.pending_withLesson (s : State) (x : Lesson) : (s.withLesson x).pending = s.pending := rfl
@[simp] theorem State.mem_withTimeline (s : State) (x : Timeline) : (s.withTimeline x).mem = s.mem := rfl
@[simp] theorem State.timer_withTimeline (s : State) (x : Timeline) : (s.withTimeline x).timer = s.timer := rfl
@[simp] theorem State.pool_withTimeline (s : State) (x : Timeline) : (s.withTimeline x).pool = s.pool := rfl
@[simp] theorem State.intake_withTimeline (s : State) (x : Timeline) : (s.withTimeline x).intake = s.intake := rfl
@[simp] theorem State.light_withTimeline (s : State) (x : Timeline) : (s.withTimeline x).light = s.light := rfl
@[simp] theorem State.motion_withTimeline (s : State) (x : Timeline) : (s.withTimeline x).motion = s.motion := rfl
@[simp] theorem State.view_withTimeline (s : State) (x : Timeline) : (s.withTimeline x).view = s.view := rfl
@[simp] theorem State.feed_withTimeline (s : State) (x : Timeline) : (s.withTimeline x).feed = s.feed := rfl
@[simp] theorem State.tenancy_withTimeline (s : State) (x : Timeline) : (s.withTimeline x).tenancy = s.tenancy := rfl
@[simp] theorem State.store_withTimeline (s : State) (x : Timeline) : (s.withTimeline x).store = s.store := rfl
@[simp] theorem State.lesson_withTimeline (s : State) (x : Timeline) : (s.withTimeline x).lesson = s.lesson := rfl
@[simp] theorem State.timeline_withTimeline (s : State) (x : Timeline) : (s.withTimeline x).timeline = x := rfl
@[simp] theorem State.link_withTimeline (s : State) (x : Timeline) : (s.withTimeline x).link = s.link := rfl
@[simp] theorem State.params_withTimeline (s : State) (x : Timeline) : (s.withTimeline x).params = s.params := rfl
@[simp] theorem State.ports_withTimeline (s : State) (x : Timeline) : (s.withTimeline x).ports = s.ports := rfl
@[simp] theorem State.pending_withTimeline (s : State) (x : Timeline) : (s.withTimeline x).pending = s.pending := rfl
@[simp] theorem State.mem_withLink (s : State) (x : Link) : (s.withLink x).mem = s.mem := rfl
@[simp] theorem State.timer_withLink (s : State) (x : Link) : (s.withLink x).timer = s.timer := rfl
@[simp] theorem State.pool_withLink (s : State) (x : Link) : (s.withLink x).pool = s.pool := rfl
@[simp] theorem State.intake_withLink (s : State) (x : Link) : (s.withLink x).intake = s.intake := rfl
@[simp] theorem State.light_withLink (s : State) (x : Link) : (s.withLink x).light = s.light := rfl
@[simp] theorem State.motion_withLink (s : State) (x : Link) : (s.withLink x).motion = s.motion := rfl
@[simp] theorem State.view_withLink (s : State) (x : Link) : (s.withLink x).view = s.view := rfl
@[simp] theorem State.feed_withLink (s : State) (x : Link) : (s.withLink x).feed = s.feed := rfl
@[simp] theorem State.tenancy_withLink (s : State) (x : Link) : (s.withLink x).tenancy = s.tenancy := rfl
@[simp] theorem State.store_withLink (s : State) (x : Link) : (s.withLink x).store = s.store := rfl
@[simp] theorem State.lesson_withLink (s : State) (x : Link) : (s.withLink x).lesson = s.lesson := rfl
@[simp] theorem State.timeline_withLink (s : State) (x : Link) : (s.withLink x).timeline = s.timeline := rfl
@[simp] theorem State.link_withLink (s : State) (x : Link) : (s.withLink x).link = x := rfl
@[simp] theorem State.params_withLink (s : State) (x : Link) : (s.withLink x).params = s.params := rfl
@[simp] theorem State.ports_withLink (s : State) (x : Link) : (s.withLink x).ports = s.ports := rfl
@[simp] theorem State.pending_withLink (s : State) (x : Link) : (s.withLink x).pending = s.pending := rfl
@[simp] theorem State.mem_withParams (s : State) (x : Params) : (s.withParams x).mem = s.mem := rfl
@[simp] theorem State.timer_withParams (s : State) (x : Params) : (s.withParams x).timer = s.timer := rfl
@[simp] theorem State.pool_withParams (s : State) (x : Params) : (s.withParams x).pool = s.pool := rfl
@[simp] theorem State.intake_withParams (s : State) (x : Params) : (s.withParams x).intake = s.intake := rfl
@[simp] theorem State.light_withParams (s : State) (x : Params) : (s.withParams x).light = s.light := rfl
@[simp] theorem State.motion_withParams (s : State) (x : Params) : (s.withParams x).motion = s.motion := rfl
@[simp] theorem State.view_withParams (s : State) (x : Params) : (s.withParams x).view = s.view := rfl
@[simp] theorem State.feed_withParams (s : State) (x : Params) : (s.withParams x).feed = s.feed := rfl
@[simp] theorem State.tenancy_withParams (s : State) (x : Params) : (s.withParams x).tenancy = s.tenancy := rfl
@[simp] theorem State.store_withParams (s : State) (x : Params) : (s.withParams x).store = s.store := rfl
@[simp] theorem State.lesson_withParams (s : State) (x : Params) : (s.withParams x).lesson = s.lesson := rfl
@[simp] theorem State.timeline_withParams (s : State) (x : Params) : (s.withParams x).timeline = s.timeline := rfl
@[simp] theorem State.link_withParams (s : State) (x : Params) : (s.withParams x).link = s.link := rfl
@[simp] theorem State.params_withParams (s : State) (x : Params) : (s.withParams x).params = x := rfl
@[simp] theorem State.ports_withParams (s : State) (x : Params) : (s.withParams x).ports = s.ports := rfl
@[simp] theorem State.pending_withParams (s : State) (x : Params) : (s.withParams x).pending = s.pending := rfl
@[simp] theorem State.mem_withPorts (s : State) (x : Ports) : (s.withPorts x).mem = s.mem := rfl
@[simp] theorem State.timer_withPorts (s : State) (x : Ports) : (s.withPorts x).timer = s.timer := rfl
@[simp] theorem State.pool_withPorts (s : State) (x : Ports) : (s.withPorts x).pool = s.pool := rfl
@[simp] theorem State.intake_withPorts (s : State) (x : Ports) : (s.withPorts x).intake = s.intake := rfl
@[simp] theorem State.light_withPorts (s : State) (x : Ports) : (s.withPorts x).light = s.light := rfl
@[simp] theorem State.motion_withPorts (s : State) (x : Ports) : (s.withPorts x).motion = s.motion := rfl
@[simp] theorem State.view_withPorts (s : State) (x : Ports) : (s.withPorts x).view = s.view := rfl
@[simp] theorem State.feed_withPorts (s : State) (x : Ports) : (s.withPorts x).feed = s.feed := rfl
@[simp] theorem State.tenancy_withPorts (s : State) (x : Ports) : (s.withPorts x).tenancy = s.tenancy := rfl
@[simp] theorem State.store_withPorts (s : State) (x : Ports) : (s.withPorts x).store = s.store := rfl
@[simp] theorem State.lesson_withPorts (s : State) (x : Ports) : (s.withPorts x).lesson = s.lesson := rfl
@[simp] theorem State.timeline_withPorts (s : State) (x : Ports) : (s.withPorts x).timeline = s.timeline := rfl
@[simp] theorem State.link_withPorts (s : State) (x : Ports) : (s.withPorts x).link = s.link := rfl
@[simp] theorem State.params_withPorts (s : State) (x : Ports) : (s.withPorts x).params = s.params := rfl
@[simp] theorem State.ports_withPorts (s : State) (x : Ports) : (s.withPorts x).ports = x := rfl
@[simp] theorem State.pending_withPorts (s : State) (x : Ports) : (s.withPorts x).pending = s.pending := rfl
@[simp] theorem State.mem_withPending (s : State) (x : List Instr) : (s.withPending x).mem = s.mem := rfl
@[simp] theorem State.timer_withPending (s : State) (x : List Instr) : (s.withPending x).timer = s.timer := rfl
@[simp] theorem State.pool_withPending (s : State) (x : List Instr) : (s.withPending x).pool = s.pool := rfl
@[simp] theorem State.intake_withPending (s : State) (x : List Instr) : (s.withPending x).intake = s.intake := rfl
@[simp] theorem State.light_withPending (s : State) (x : List Instr) : (s.withPending x).light = s.light := rfl
@[simp] theorem State.motion_withPending (s : State) (x : List Instr) : (s.withPending x).motion = s.motion := rfl
@[simp] theorem State.view_withPending (s : State) (x : List Instr) : (s.withPending x).view = s.view := rfl
@[simp] theorem State.feed_withPending (s : State) (x : List Instr) : (s.withPending x).feed = s.feed := rfl
@[simp] theorem State.tenancy_withPending (s : State) (x : List Instr) : (s.withPending x).tenancy = s.tenancy := rfl
@[simp] theorem State.store_withPending (s : State) (x : List Instr) : (s.withPending x).store = s.store := rfl
@[simp] theorem State.lesson_withPending (s : State) (x : List Instr) : (s.withPending x).lesson = s.lesson := rfl
@[simp] theorem State.timeline_withPending (s : State) (x : List Instr) : (s.withPending x).timeline = s.timeline := rfl
@[simp] theorem State.link_withPending (s : State) (x : List Instr) : (s.withPending x).link = s.link := rfl
@[simp] theorem State.params_withPending (s : State) (x : List Instr) : (s.withPending x).params = s.params := rfl
@[simp] theorem State.ports_withPending (s : State) (x : List Instr) : (s.withPending x).ports = s.ports := rfl
@[simp] theorem State.pending_withPending (s : State) (x : List Instr) : (s.withPending x).pending = x := rfl

end Sys2Proof.Machine
end

