-- ==== Sys2Proof/Laws/Frames.lean ====
section
/-! SUPPORT. Frame laws: for each shared operation, the fields of State it leaves as they were. Provers cite these in place of
unfolding the operation.
-/
namespace Sys2Proof.Machine

/-- setPort leaves everything but ports as it was. -/
@[simp] theorem State.setPort_frame (s : State) (p : Port) (r : PortRec) :
    (s.setPort p r).mem = s.mem ∧
      (s.setPort p r).timer = s.timer ∧
      (s.setPort p r).pool = s.pool ∧
      (s.setPort p r).intake = s.intake ∧
      (s.setPort p r).light = s.light ∧
      (s.setPort p r).motion = s.motion ∧
      (s.setPort p r).view = s.view ∧
      (s.setPort p r).feed = s.feed ∧
      (s.setPort p r).tenancy = s.tenancy ∧
      (s.setPort p r).store = s.store ∧
      (s.setPort p r).lesson = s.lesson ∧
      (s.setPort p r).timeline = s.timeline ∧
      (s.setPort p r).link = s.link ∧
      (s.setPort p r).params = s.params ∧
      (s.setPort p r).pending = s.pending := by
  simp [State.setPort]

/-- post leaves everything but ports as it was. -/
@[simp] theorem State.post_frame (s : State) (p : Port) (n : Notice) :
    (s.post p n).mem = s.mem ∧
      (s.post p n).timer = s.timer ∧
      (s.post p n).pool = s.pool ∧
      (s.post p n).intake = s.intake ∧
      (s.post p n).light = s.light ∧
      (s.post p n).motion = s.motion ∧
      (s.post p n).view = s.view ∧
      (s.post p n).feed = s.feed ∧
      (s.post p n).tenancy = s.tenancy ∧
      (s.post p n).store = s.store ∧
      (s.post p n).lesson = s.lesson ∧
      (s.post p n).timeline = s.timeline ∧
      (s.post p n).link = s.link ∧
      (s.post p n).params = s.params ∧
      (s.post p n).pending = s.pending := by
  simp [State.post]

/-- postAll leaves everything but ports as it was. -/
@[simp] theorem State.postAll_frame (s : State) (n : Notice) (o : Option Port) :
    (s.postAll n o).mem = s.mem ∧
      (s.postAll n o).timer = s.timer ∧
      (s.postAll n o).pool = s.pool ∧
      (s.postAll n o).intake = s.intake ∧
      (s.postAll n o).light = s.light ∧
      (s.postAll n o).motion = s.motion ∧
      (s.postAll n o).view = s.view ∧
      (s.postAll n o).feed = s.feed ∧
      (s.postAll n o).tenancy = s.tenancy ∧
      (s.postAll n o).store = s.store ∧
      (s.postAll n o).lesson = s.lesson ∧
      (s.postAll n o).timeline = s.timeline ∧
      (s.postAll n o).link = s.link ∧
      (s.postAll n o).params = s.params ∧
      (s.postAll n o).pending = s.pending := by
  simp [State.postAll]

/-- reply leaves everything but ports as it was. -/
@[simp] theorem State.reply_frame (s : State) (p : Port) (k : Fin 4) (q : Request) (st : Status) (bs : List Byte) :
    (s.reply p k q st bs).mem = s.mem ∧
      (s.reply p k q st bs).timer = s.timer ∧
      (s.reply p k q st bs).pool = s.pool ∧
      (s.reply p k q st bs).intake = s.intake ∧
      (s.reply p k q st bs).light = s.light ∧
      (s.reply p k q st bs).motion = s.motion ∧
      (s.reply p k q st bs).view = s.view ∧
      (s.reply p k q st bs).feed = s.feed ∧
      (s.reply p k q st bs).tenancy = s.tenancy ∧
      (s.reply p k q st bs).store = s.store ∧
      (s.reply p k q st bs).lesson = s.lesson ∧
      (s.reply p k q st bs).timeline = s.timeline ∧
      (s.reply p k q st bs).link = s.link ∧
      (s.reply p k q st bs).params = s.params ∧
      (s.reply p k q st bs).pending = s.pending := by
  simp [State.reply]

/-- offer leaves everything but timeline as it was. -/
@[simp] theorem State.offer_frame (s : State) (o : Offer) :
    (s.offer o).mem = s.mem ∧
      (s.offer o).timer = s.timer ∧
      (s.offer o).pool = s.pool ∧
      (s.offer o).intake = s.intake ∧
      (s.offer o).light = s.light ∧
      (s.offer o).motion = s.motion ∧
      (s.offer o).view = s.view ∧
      (s.offer o).feed = s.feed ∧
      (s.offer o).tenancy = s.tenancy ∧
      (s.offer o).store = s.store ∧
      (s.offer o).lesson = s.lesson ∧
      (s.offer o).link = s.link ∧
      (s.offer o).params = s.params ∧
      (s.offer o).ports = s.ports ∧
      (s.offer o).pending = s.pending := by
  simp [State.offer]

/-- offerAll leaves everything but timeline as it was. -/
@[simp] theorem State.offerAll_frame (s : State) (os : List Offer) :
    (s.offerAll os).mem = s.mem ∧
      (s.offerAll os).timer = s.timer ∧
      (s.offerAll os).pool = s.pool ∧
      (s.offerAll os).intake = s.intake ∧
      (s.offerAll os).light = s.light ∧
      (s.offerAll os).motion = s.motion ∧
      (s.offerAll os).view = s.view ∧
      (s.offerAll os).feed = s.feed ∧
      (s.offerAll os).tenancy = s.tenancy ∧
      (s.offerAll os).store = s.store ∧
      (s.offerAll os).lesson = s.lesson ∧
      (s.offerAll os).link = s.link ∧
      (s.offerAll os).params = s.params ∧
      (s.offerAll os).ports = s.ports ∧
      (s.offerAll os).pending = s.pending := by
  unfold State.offerAll
  induction os generalizing s with
  | nil => simp
  | cons o os ih => simpa using ih (s.offer o)

/-- pin leaves everything but pool as it was. -/
@[simp] theorem State.pin_frame (s : State) (b : BufId) :
    (s.pin b).mem = s.mem ∧
      (s.pin b).timer = s.timer ∧
      (s.pin b).intake = s.intake ∧
      (s.pin b).light = s.light ∧
      (s.pin b).motion = s.motion ∧
      (s.pin b).view = s.view ∧
      (s.pin b).feed = s.feed ∧
      (s.pin b).tenancy = s.tenancy ∧
      (s.pin b).store = s.store ∧
      (s.pin b).lesson = s.lesson ∧
      (s.pin b).timeline = s.timeline ∧
      (s.pin b).link = s.link ∧
      (s.pin b).params = s.params ∧
      (s.pin b).ports = s.ports ∧
      (s.pin b).pending = s.pending := by
  simp [State.pin]

/-- pin? leaves everything but pool as it was. -/
@[simp] theorem State.pin?_frame (s : State) (b : Option BufId) :
    (s.pin? b).mem = s.mem ∧
      (s.pin? b).timer = s.timer ∧
      (s.pin? b).intake = s.intake ∧
      (s.pin? b).light = s.light ∧
      (s.pin? b).motion = s.motion ∧
      (s.pin? b).view = s.view ∧
      (s.pin? b).feed = s.feed ∧
      (s.pin? b).tenancy = s.tenancy ∧
      (s.pin? b).store = s.store ∧
      (s.pin? b).lesson = s.lesson ∧
      (s.pin? b).timeline = s.timeline ∧
      (s.pin? b).link = s.link ∧
      (s.pin? b).params = s.params ∧
      (s.pin? b).ports = s.ports ∧
      (s.pin? b).pending = s.pending := by
  cases b <;> simp [State.pin?]

/-- pinsGone leaves everything but pool, store, ports as it was. -/
@[simp] theorem State.pinsGone_frame (s : State) (b : BufId) :
    (s.pinsGone b).mem = s.mem ∧
      (s.pinsGone b).timer = s.timer ∧
      (s.pinsGone b).intake = s.intake ∧
      (s.pinsGone b).light = s.light ∧
      (s.pinsGone b).motion = s.motion ∧
      (s.pinsGone b).view = s.view ∧
      (s.pinsGone b).feed = s.feed ∧
      (s.pinsGone b).tenancy = s.tenancy ∧
      (s.pinsGone b).lesson = s.lesson ∧
      (s.pinsGone b).timeline = s.timeline ∧
      (s.pinsGone b).link = s.link ∧
      (s.pinsGone b).params = s.params ∧
      (s.pinsGone b).pending = s.pending := by
  unfold State.pinsGone
  split <;> simp

/-- unpin leaves everything but pool, store, ports as it was. -/
@[simp] theorem State.unpin_frame (s : State) (b : BufId) :
    (s.unpin b).mem = s.mem ∧
      (s.unpin b).timer = s.timer ∧
      (s.unpin b).intake = s.intake ∧
      (s.unpin b).light = s.light ∧
      (s.unpin b).motion = s.motion ∧
      (s.unpin b).view = s.view ∧
      (s.unpin b).feed = s.feed ∧
      (s.unpin b).tenancy = s.tenancy ∧
      (s.unpin b).lesson = s.lesson ∧
      (s.unpin b).timeline = s.timeline ∧
      (s.unpin b).link = s.link ∧
      (s.unpin b).params = s.params ∧
      (s.unpin b).pending = s.pending := by
  unfold State.unpin
  dsimp only
  split <;> simp

/-- unpin? leaves everything but pool, store, ports as it was. -/
@[simp] theorem State.unpin?_frame (s : State) (b : Option BufId) :
    (s.unpin? b).mem = s.mem ∧
      (s.unpin? b).timer = s.timer ∧
      (s.unpin? b).intake = s.intake ∧
      (s.unpin? b).light = s.light ∧
      (s.unpin? b).motion = s.motion ∧
      (s.unpin? b).view = s.view ∧
      (s.unpin? b).feed = s.feed ∧
      (s.unpin? b).tenancy = s.tenancy ∧
      (s.unpin? b).lesson = s.lesson ∧
      (s.unpin? b).timeline = s.timeline ∧
      (s.unpin? b).link = s.link ∧
      (s.unpin? b).params = s.params ∧
      (s.unpin? b).pending = s.pending := by
  cases b <;> simp [State.unpin?]

/-- handover leaves everything but view, tenancy, timeline as it was. -/
@[simp] theorem State.handover_frame (s : State) (t : Tenancy) (c : TenancyCause) :
    (s.handover t c).mem = s.mem ∧
      (s.handover t c).timer = s.timer ∧
      (s.handover t c).pool = s.pool ∧
      (s.handover t c).intake = s.intake ∧
      (s.handover t c).light = s.light ∧
      (s.handover t c).motion = s.motion ∧
      (s.handover t c).feed = s.feed ∧
      (s.handover t c).store = s.store ∧
      (s.handover t c).lesson = s.lesson ∧
      (s.handover t c).link = s.link ∧
      (s.handover t c).params = s.params ∧
      (s.handover t c).ports = s.ports ∧
      (s.handover t c).pending = s.pending := by
  simp [State.handover]

/-- grantBest leaves everything but view, tenancy, timeline, ports as it was. -/
@[simp] theorem State.grantBest_frame (s : State) (c : TenancyCause) (b : Bool) :
    (s.grantBest c b).mem = s.mem ∧
      (s.grantBest c b).timer = s.timer ∧
      (s.grantBest c b).pool = s.pool ∧
      (s.grantBest c b).intake = s.intake ∧
      (s.grantBest c b).light = s.light ∧
      (s.grantBest c b).motion = s.motion ∧
      (s.grantBest c b).feed = s.feed ∧
      (s.grantBest c b).store = s.store ∧
      (s.grantBest c b).lesson = s.lesson ∧
      (s.grantBest c b).link = s.link ∧
      (s.grantBest c b).params = s.params ∧
      (s.grantBest c b).pending = s.pending := by
  unfold State.grantBest
  split
  · simp
  · dsimp only
    split <;> (try split) <;> simp

/-- evaluate leaves everything but view, tenancy, timeline, ports as it was. -/
@[simp] theorem State.evaluate_frame (s : State) (n : Nat) :
    (State.evaluate n s).mem = s.mem ∧
      (State.evaluate n s).timer = s.timer ∧
      (State.evaluate n s).pool = s.pool ∧
      (State.evaluate n s).intake = s.intake ∧
      (State.evaluate n s).light = s.light ∧
      (State.evaluate n s).motion = s.motion ∧
      (State.evaluate n s).feed = s.feed ∧
      (State.evaluate n s).store = s.store ∧
      (State.evaluate n s).lesson = s.lesson ∧
      (State.evaluate n s).link = s.link ∧
      (State.evaluate n s).params = s.params ∧
      (State.evaluate n s).pending = s.pending := by
  induction n generalizing s with
  | zero => simp [State.evaluate]
  | succ n ih =>
    unfold State.evaluate
    split
    · rename_i c _; simpa using ih (s.grantBest c true)
    · simp

/-- settle leaves everything but view, tenancy, timeline, ports as it was. -/
@[simp] theorem State.settle_frame (s : State) :
    (s.settle).mem = s.mem ∧
      (s.settle).timer = s.timer ∧
      (s.settle).pool = s.pool ∧
      (s.settle).intake = s.intake ∧
      (s.settle).light = s.light ∧
      (s.settle).motion = s.motion ∧
      (s.settle).feed = s.feed ∧
      (s.settle).store = s.store ∧
      (s.settle).lesson = s.lesson ∧
      (s.settle).link = s.link ∧
      (s.settle).params = s.params ∧
      (s.settle).pending = s.pending := by
  simp [State.settle]

/-- passOn leaves everything but view, tenancy, timeline, ports as it was. -/
@[simp] theorem State.passOn_frame (s : State) (c : TenancyCause) :
    (s.passOn c).mem = s.mem ∧
      (s.passOn c).timer = s.timer ∧
      (s.passOn c).pool = s.pool ∧
      (s.passOn c).intake = s.intake ∧
      (s.passOn c).light = s.light ∧
      (s.passOn c).motion = s.motion ∧
      (s.passOn c).feed = s.feed ∧
      (s.passOn c).store = s.store ∧
      (s.passOn c).lesson = s.lesson ∧
      (s.passOn c).link = s.link ∧
      (s.passOn c).params = s.params ∧
      (s.passOn c).pending = s.pending := by
  unfold State.passOn
  split <;> simp

/-- tenancyReset leaves everything but view, tenancy, timeline, ports as it was. -/
@[simp] theorem State.tenancyReset_frame (s : State) (p : Port) :
    (s.tenancyReset p).mem = s.mem ∧
      (s.tenancyReset p).timer = s.timer ∧
      (s.tenancyReset p).pool = s.pool ∧
      (s.tenancyReset p).intake = s.intake ∧
      (s.tenancyReset p).light = s.light ∧
      (s.tenancyReset p).motion = s.motion ∧
      (s.tenancyReset p).feed = s.feed ∧
      (s.tenancyReset p).store = s.store ∧
      (s.tenancyReset p).lesson = s.lesson ∧
      (s.tenancyReset p).link = s.link ∧
      (s.tenancyReset p).params = s.params ∧
      (s.tenancyReset p).pending = s.pending := by
  unfold State.tenancyReset
  split <;> simp

/-- singleUseStep leaves everything but view, tenancy, timeline, ports as it was. -/
@[simp] theorem State.singleUseStep_frame (s : State) :
    (s.singleUseStep).mem = s.mem ∧
      (s.singleUseStep).timer = s.timer ∧
      (s.singleUseStep).pool = s.pool ∧
      (s.singleUseStep).intake = s.intake ∧
      (s.singleUseStep).light = s.light ∧
      (s.singleUseStep).motion = s.motion ∧
      (s.singleUseStep).feed = s.feed ∧
      (s.singleUseStep).store = s.store ∧
      (s.singleUseStep).lesson = s.lesson ∧
      (s.singleUseStep).link = s.link ∧
      (s.singleUseStep).params = s.params ∧
      (s.singleUseStep).pending = s.pending := by
  unfold State.singleUseStep
  split <;> simp

/-- portReset leaves everything but view, tenancy, timeline, ports as it was. -/
@[simp] theorem State.portReset_frame (s : State) (p : Port) (k : Option (Fin 4)) :
    (s.portReset p k).mem = s.mem ∧
      (s.portReset p k).timer = s.timer ∧
      (s.portReset p k).pool = s.pool ∧
      (s.portReset p k).intake = s.intake ∧
      (s.portReset p k).light = s.light ∧
      (s.portReset p k).motion = s.motion ∧
      (s.portReset p k).feed = s.feed ∧
      (s.portReset p k).store = s.store ∧
      (s.portReset p k).lesson = s.lesson ∧
      (s.portReset p k).link = s.link ∧
      (s.portReset p k).params = s.params ∧
      (s.portReset p k).pending = s.pending := by
  simp [State.portReset]

/-- tenancyTick leaves everything but view, tenancy, timeline, ports as it was. -/
@[simp] theorem State.tenancyTick_frame (s : State) :
    (s.tenancyTick).mem = s.mem ∧
      (s.tenancyTick).timer = s.timer ∧
      (s.tenancyTick).pool = s.pool ∧
      (s.tenancyTick).intake = s.intake ∧
      (s.tenancyTick).light = s.light ∧
      (s.tenancyTick).motion = s.motion ∧
      (s.tenancyTick).feed = s.feed ∧
      (s.tenancyTick).store = s.store ∧
      (s.tenancyTick).lesson = s.lesson ∧
      (s.tenancyTick).link = s.link ∧
      (s.tenancyTick).params = s.params ∧
      (s.tenancyTick).pending = s.pending := by
  simp [State.tenancyTick]

/-- changeLesson leaves everything but lesson, ports as it was. -/
@[simp] theorem State.changeLesson_frame (s : State) (l : Lesson) (c : LessonCause) :
    (s.changeLesson l c).mem = s.mem ∧
      (s.changeLesson l c).timer = s.timer ∧
      (s.changeLesson l c).pool = s.pool ∧
      (s.changeLesson l c).intake = s.intake ∧
      (s.changeLesson l c).light = s.light ∧
      (s.changeLesson l c).motion = s.motion ∧
      (s.changeLesson l c).view = s.view ∧
      (s.changeLesson l c).feed = s.feed ∧
      (s.changeLesson l c).tenancy = s.tenancy ∧
      (s.changeLesson l c).store = s.store ∧
      (s.changeLesson l c).timeline = s.timeline ∧
      (s.changeLesson l c).link = s.link ∧
      (s.changeLesson l c).params = s.params ∧
      (s.changeLesson l c).pending = s.pending := by
  simp [State.changeLesson]

/-- appendOwn leaves everything but timeline as it was. -/
@[simp] theorem State.appendOwn_frame (s : State) (o : Offer) :
    (s.appendOwn o).mem = s.mem ∧
      (s.appendOwn o).timer = s.timer ∧
      (s.appendOwn o).pool = s.pool ∧
      (s.appendOwn o).intake = s.intake ∧
      (s.appendOwn o).light = s.light ∧
      (s.appendOwn o).motion = s.motion ∧
      (s.appendOwn o).view = s.view ∧
      (s.appendOwn o).feed = s.feed ∧
      (s.appendOwn o).tenancy = s.tenancy ∧
      (s.appendOwn o).store = s.store ∧
      (s.appendOwn o).lesson = s.lesson ∧
      (s.appendOwn o).link = s.link ∧
      (s.appendOwn o).params = s.params ∧
      (s.appendOwn o).ports = s.ports ∧
      (s.appendOwn o).pending = s.pending := by
  simp [State.appendOwn]

/-- lessonPause leaves everything but lesson, timeline, ports as it was. -/
@[simp] theorem State.lessonPause_frame (s : State) (p : Port) :
    ((s.lessonPause p).state).mem = s.mem ∧
      ((s.lessonPause p).state).timer = s.timer ∧
      ((s.lessonPause p).state).pool = s.pool ∧
      ((s.lessonPause p).state).intake = s.intake ∧
      ((s.lessonPause p).state).light = s.light ∧
      ((s.lessonPause p).state).motion = s.motion ∧
      ((s.lessonPause p).state).view = s.view ∧
      ((s.lessonPause p).state).feed = s.feed ∧
      ((s.lessonPause p).state).tenancy = s.tenancy ∧
      ((s.lessonPause p).state).store = s.store ∧
      ((s.lessonPause p).state).link = s.link ∧
      ((s.lessonPause p).state).params = s.params ∧
      ((s.lessonPause p).state).pending = s.pending := by
  unfold State.lessonPause
  split <;> simp [State.lessonAnswer]

/-- servePause leaves everything but lesson, timeline, ports as it was. -/
@[simp] theorem State.servePause_frame (s : State) (p : Port) :
    (s.servePause p).mem = s.mem ∧
      (s.servePause p).timer = s.timer ∧
      (s.servePause p).pool = s.pool ∧
      (s.servePause p).intake = s.intake ∧
      (s.servePause p).light = s.light ∧
      (s.servePause p).motion = s.motion ∧
      (s.servePause p).view = s.view ∧
      (s.servePause p).feed = s.feed ∧
      (s.servePause p).tenancy = s.tenancy ∧
      (s.servePause p).store = s.store ∧
      (s.servePause p).link = s.link ∧
      (s.servePause p).params = s.params ∧
      (s.servePause p).pending = s.pending := by
  unfold State.servePause State.serve
  split
  · simp
  · split
    · split <;> simp
    · simp

/-- meetPause leaves everything but lesson, timeline, ports as it was. -/
@[simp] theorem State.meetPause_frame (s : State) (o : Option Port) :
    (s.meetPause o).mem = s.mem ∧
      (s.meetPause o).timer = s.timer ∧
      (s.meetPause o).pool = s.pool ∧
      (s.meetPause o).intake = s.intake ∧
      (s.meetPause o).light = s.light ∧
      (s.meetPause o).motion = s.motion ∧
      (s.meetPause o).view = s.view ∧
      (s.meetPause o).feed = s.feed ∧
      (s.meetPause o).tenancy = s.tenancy ∧
      (s.meetPause o).store = s.store ∧
      (s.meetPause o).link = s.link ∧
      (s.meetPause o).params = s.params ∧
      (s.meetPause o).pending = s.pending := by
  unfold State.meetPause
  split <;> simp

/-- With no LESSON_PAUSE to meet, nothing comes between. -/
@[simp] theorem State.meetPause_none (s : State) : s.meetPause none = s := rfl

/-- With no LESSON_PAUSE to meet, the entry is offered at once. -/
@[simp] theorem Doing.entered_none (d : Doing) : d.entered none = d.state.offer d.entry := rfl

/-- storing leaves everything but store, ports as it was. -/
@[simp] theorem State.storing_frame (s : State) (k : SlotId) (t : PageTag) (b : BufId) (i : FrameMeta) (o : Option Port) :
    ((s.storing k t b i o).state).mem = s.mem ∧
      ((s.storing k t b i o).state).timer = s.timer ∧
      ((s.storing k t b i o).state).pool = s.pool ∧
      ((s.storing k t b i o).state).intake = s.intake ∧
      ((s.storing k t b i o).state).light = s.light ∧
      ((s.storing k t b i o).state).motion = s.motion ∧
      ((s.storing k t b i o).state).view = s.view ∧
      ((s.storing k t b i o).state).feed = s.feed ∧
      ((s.storing k t b i o).state).tenancy = s.tenancy ∧
      ((s.storing k t b i o).state).lesson = s.lesson ∧
      ((s.storing k t b i o).state).timeline = s.timeline ∧
      ((s.storing k t b i o).state).link = s.link ∧
      ((s.storing k t b i o).state).params = s.params ∧
      ((s.storing k t b i o).state).pending = s.pending := by
  simp [State.storing]

/-- storePage leaves everything but store, timeline, ports as it was. -/
@[simp] theorem State.storePage_frame (s : State) (k : SlotId) (t : PageTag) (b : BufId) (i : FrameMeta) (o : Option Port) :
    (s.storePage k t b i o).mem = s.mem ∧
      (s.storePage k t b i o).timer = s.timer ∧
      (s.storePage k t b i o).pool = s.pool ∧
      (s.storePage k t b i o).intake = s.intake ∧
      (s.storePage k t b i o).light = s.light ∧
      (s.storePage k t b i o).motion = s.motion ∧
      (s.storePage k t b i o).view = s.view ∧
      (s.storePage k t b i o).feed = s.feed ∧
      (s.storePage k t b i o).tenancy = s.tenancy ∧
      (s.storePage k t b i o).lesson = s.lesson ∧
      (s.storePage k t b i o).link = s.link ∧
      (s.storePage k t b i o).params = s.params ∧
      (s.storePage k t b i o).pending = s.pending := by
  simp [State.storePage]

/-- drawn leaves everything but store as it was. -/
@[simp] theorem State.drawn_frame (s : State) (n : Nat) :
    (s.drawn n).mem = s.mem ∧
      (s.drawn n).timer = s.timer ∧
      (s.drawn n).pool = s.pool ∧
      (s.drawn n).intake = s.intake ∧
      (s.drawn n).light = s.light ∧
      (s.drawn n).motion = s.motion ∧
      (s.drawn n).view = s.view ∧
      (s.drawn n).feed = s.feed ∧
      (s.drawn n).tenancy = s.tenancy ∧
      (s.drawn n).lesson = s.lesson ∧
      (s.drawn n).timeline = s.timeline ∧
      (s.drawn n).link = s.link ∧
      (s.drawn n).params = s.params ∧
      (s.drawn n).ports = s.ports ∧
      (s.drawn n).pending = s.pending := by
  simp [State.drawn]

/-- skipping leaves everything but ports as it was. -/
@[simp] theorem State.skipping_frame (s : State) (t : Trigger) (c : SkipCause) (w : Word) :
    ((s.skipping t c w).state).mem = s.mem ∧
      ((s.skipping t c w).state).timer = s.timer ∧
      ((s.skipping t c w).state).pool = s.pool ∧
      ((s.skipping t c w).state).intake = s.intake ∧
      ((s.skipping t c w).state).light = s.light ∧
      ((s.skipping t c w).state).motion = s.motion ∧
      ((s.skipping t c w).state).view = s.view ∧
      ((s.skipping t c w).state).feed = s.feed ∧
      ((s.skipping t c w).state).tenancy = s.tenancy ∧
      ((s.skipping t c w).state).store = s.store ∧
      ((s.skipping t c w).state).lesson = s.lesson ∧
      ((s.skipping t c w).state).timeline = s.timeline ∧
      ((s.skipping t c w).state).link = s.link ∧
      ((s.skipping t c w).state).params = s.params ∧
      ((s.skipping t c w).state).pending = s.pending := by
  simp [State.skipping]

/-- storingAuto leaves everything but pool, store, ports as it was. -/
@[simp] theorem State.storingAuto_frame (s : State) (k : SlotId) (t : Trigger) (b : BufId) (i : FrameMeta) (q : Pool) :
    ((s.storingAuto k t b i q).state).mem = s.mem ∧
      ((s.storingAuto k t b i q).state).timer = s.timer ∧
      ((s.storingAuto k t b i q).state).intake = s.intake ∧
      ((s.storingAuto k t b i q).state).light = s.light ∧
      ((s.storingAuto k t b i q).state).motion = s.motion ∧
      ((s.storingAuto k t b i q).state).view = s.view ∧
      ((s.storingAuto k t b i q).state).feed = s.feed ∧
      ((s.storingAuto k t b i q).state).tenancy = s.tenancy ∧
      ((s.storingAuto k t b i q).state).lesson = s.lesson ∧
      ((s.storingAuto k t b i q).state).timeline = s.timeline ∧
      ((s.storingAuto k t b i q).state).link = s.link ∧
      ((s.storingAuto k t b i q).state).params = s.params ∧
      ((s.storingAuto k t b i q).state).pending = s.pending := by
  simp [State.storingAuto]

/-- capturingTimed leaves everything but pool, store, ports as it was. -/
@[simp] theorem State.capturingTimed_frame (s : State) :
    (s.capturingTimed.state).mem = s.mem ∧
      (s.capturingTimed.state).timer = s.timer ∧
      (s.capturingTimed.state).intake = s.intake ∧
      (s.capturingTimed.state).light = s.light ∧
      (s.capturingTimed.state).motion = s.motion ∧
      (s.capturingTimed.state).view = s.view ∧
      (s.capturingTimed.state).feed = s.feed ∧
      (s.capturingTimed.state).tenancy = s.tenancy ∧
      (s.capturingTimed.state).lesson = s.lesson ∧
      (s.capturingTimed.state).timeline = s.timeline ∧
      (s.capturingTimed.state).link = s.link ∧
      (s.capturingTimed.state).params = s.params ∧
      (s.capturingTimed.state).pending = s.pending := by
  unfold State.capturingTimed
  split
  · simp
  · split <;> simp

/-- timedCapture leaves everything but pool, store, lesson, timeline, ports as it was. -/
@[simp] theorem State.timedCapture_frame (s : State) (o : Option Port) :
    (s.timedCapture o).mem = s.mem ∧
      (s.timedCapture o).timer = s.timer ∧
      (s.timedCapture o).intake = s.intake ∧
      (s.timedCapture o).light = s.light ∧
      (s.timedCapture o).motion = s.motion ∧
      (s.timedCapture o).view = s.view ∧
      (s.timedCapture o).feed = s.feed ∧
      (s.timedCapture o).tenancy = s.tenancy ∧
      (s.timedCapture o).link = s.link ∧
      (s.timedCapture o).params = s.params ∧
      (s.timedCapture o).pending = s.pending := by
  simp [State.timedCapture, Doing.entered]

/-- fill leaves everything but pool, store, timeline, ports as it was. -/
@[simp] theorem State.fill_frame (s : State) (r : Report) (k : SlotId) :
    (s.fill r k).mem = s.mem ∧
      (s.fill r k).timer = s.timer ∧
      (s.fill r k).intake = s.intake ∧
      (s.fill r k).light = s.light ∧
      (s.fill r k).motion = s.motion ∧
      (s.fill r k).view = s.view ∧
      (s.fill r k).feed = s.feed ∧
      (s.fill r k).tenancy = s.tenancy ∧
      (s.fill r k).lesson = s.lesson ∧
      (s.fill r k).link = s.link ∧
      (s.fill r k).params = s.params ∧
      (s.fill r k).pending = s.pending := by
  unfold State.fill
  split
  · split
    · split <;> simp
    · simp
  · simp

/-- A fold of steps that keep something keeps it. -/
theorem foldl_keeps {α β γ : Type} (g : α → γ) (f : α → β → α) (h : ∀ a b, g (f a b) = g a) (l : List β) (a : α) :
    g (l.foldl f a) = g a := by
  induction l generalizing a with
  | nil => rfl
  | cons b l ih => rw [List.foldl_cons, ih, h]

/-- fillAll leaves everything but pool, store, timeline, ports as it was. -/
@[simp] theorem State.fillAll_frame (s : State) (r : Report) :
    (s.fillAll r).mem = s.mem ∧
      (s.fillAll r).timer = s.timer ∧
      (s.fillAll r).intake = s.intake ∧
      (s.fillAll r).light = s.light ∧
      (s.fillAll r).motion = s.motion ∧
      (s.fillAll r).view = s.view ∧
      (s.fillAll r).feed = s.feed ∧
      (s.fillAll r).tenancy = s.tenancy ∧
      (s.fillAll r).lesson = s.lesson ∧
      (s.fillAll r).link = s.link ∧
      (s.fillAll r).params = s.params ∧
      (s.fillAll r).pending = s.pending := by
  unfold State.fillAll
  refine ⟨?_, ?_, ?_, ?_, ?_, ?_, ?_, ?_, ?_, ?_, ?_, ?_⟩ <;>
    exact foldl_keeps _ _ (by intro a b; simp) _ s

/-- capturingTurn leaves everything but pool, store, ports as it was. -/
@[simp] theorem State.capturingTurn_frame (s : State) (r : Report) :
    ((s.capturingTurn r).state).mem = s.mem ∧
      ((s.capturingTurn r).state).timer = s.timer ∧
      ((s.capturingTurn r).state).intake = s.intake ∧
      ((s.capturingTurn r).state).light = s.light ∧
      ((s.capturingTurn r).state).motion = s.motion ∧
      ((s.capturingTurn r).state).view = s.view ∧
      ((s.capturingTurn r).state).feed = s.feed ∧
      ((s.capturingTurn r).state).tenancy = s.tenancy ∧
      ((s.capturingTurn r).state).lesson = s.lesson ∧
      ((s.capturingTurn r).state).timeline = s.timeline ∧
      ((s.capturingTurn r).state).link = s.link ∧
      ((s.capturingTurn r).state).params = s.params ∧
      ((s.capturingTurn r).state).pending = s.pending := by
  unfold State.capturingTurn
  split
  · simp
  · split
    · simp
    · split <;> simp

/-- pageTurn leaves everything but pool, store, timeline, ports as it was. -/
@[simp] theorem State.pageTurn_frame (s : State) (r : Report) :
    (s.pageTurn r).mem = s.mem ∧
      (s.pageTurn r).timer = s.timer ∧
      (s.pageTurn r).intake = s.intake ∧
      (s.pageTurn r).light = s.light ∧
      (s.pageTurn r).motion = s.motion ∧
      (s.pageTurn r).view = s.view ∧
      (s.pageTurn r).feed = s.feed ∧
      (s.pageTurn r).tenancy = s.tenancy ∧
      (s.pageTurn r).lesson = s.lesson ∧
      (s.pageTurn r).link = s.link ∧
      (s.pageTurn r).params = s.params ∧
      (s.pageTurn r).pending = s.pending := by
  simp [State.pageTurn]

/-- storeReport leaves everything but pool, store, timeline, ports as it was. -/
@[simp] theorem State.storeReport_frame (s : State) (r : StoreReport) :
    (s.storeReport r).mem = s.mem ∧
      (s.storeReport r).timer = s.timer ∧
      (s.storeReport r).intake = s.intake ∧
      (s.storeReport r).light = s.light ∧
      (s.storeReport r).motion = s.motion ∧
      (s.storeReport r).view = s.view ∧
      (s.storeReport r).feed = s.feed ∧
      (s.storeReport r).tenancy = s.tenancy ∧
      (s.storeReport r).lesson = s.lesson ∧
      (s.storeReport r).link = s.link ∧
      (s.storeReport r).params = s.params ∧
      (s.storeReport r).pending = s.pending := by
  unfold State.storeReport
  dsimp only
  split <;> simp

/-- storeNextReport leaves everything but pool, store, timeline, ports as it was. -/
@[simp] theorem State.storeNextReport_frame (s : State) :
    (s.storeNextReport).mem = s.mem ∧
      (s.storeNextReport).timer = s.timer ∧
      (s.storeNextReport).intake = s.intake ∧
      (s.storeNextReport).light = s.light ∧
      (s.storeNextReport).motion = s.motion ∧
      (s.storeNextReport).view = s.view ∧
      (s.storeNextReport).feed = s.feed ∧
      (s.storeNextReport).tenancy = s.tenancy ∧
      (s.storeNextReport).lesson = s.lesson ∧
      (s.storeNextReport).link = s.link ∧
      (s.storeNextReport).params = s.params ∧
      (s.storeNextReport).pending = s.pending := by
  unfold State.storeNextReport
  split <;> simp

/-- failReservation leaves everything but store, ports as it was. -/
@[simp] theorem State.failReservation_frame (s : State) (k : SlotId) :
    (s.failReservation k).mem = s.mem ∧
      (s.failReservation k).timer = s.timer ∧
      (s.failReservation k).pool = s.pool ∧
      (s.failReservation k).intake = s.intake ∧
      (s.failReservation k).light = s.light ∧
      (s.failReservation k).motion = s.motion ∧
      (s.failReservation k).view = s.view ∧
      (s.failReservation k).feed = s.feed ∧
      (s.failReservation k).tenancy = s.tenancy ∧
      (s.failReservation k).lesson = s.lesson ∧
      (s.failReservation k).timeline = s.timeline ∧
      (s.failReservation k).link = s.link ∧
      (s.failReservation k).params = s.params ∧
      (s.failReservation k).pending = s.pending := by
  unfold State.failReservation
  split <;> simp

/-- failReservations leaves everything but store, ports as it was. -/
@[simp] theorem State.failReservations_frame (s : State) :
    (s.failReservations).mem = s.mem ∧
      (s.failReservations).timer = s.timer ∧
      (s.failReservations).pool = s.pool ∧
      (s.failReservations).intake = s.intake ∧
      (s.failReservations).light = s.light ∧
      (s.failReservations).motion = s.motion ∧
      (s.failReservations).view = s.view ∧
      (s.failReservations).feed = s.feed ∧
      (s.failReservations).tenancy = s.tenancy ∧
      (s.failReservations).lesson = s.lesson ∧
      (s.failReservations).timeline = s.timeline ∧
      (s.failReservations).link = s.link ∧
      (s.failReservations).params = s.params ∧
      (s.failReservations).pending = s.pending := by
  unfold State.failReservations
  refine ⟨?_, ?_, ?_, ?_, ?_, ?_, ?_, ?_, ?_, ?_, ?_, ?_, ?_, ?_⟩ <;>
    exact foldl_keeps _ _ (by intro a b; simp) _ s

/-- lessonSecond leaves everything but pool, store, lesson, timeline, ports as it was. -/
@[simp] theorem State.lessonSecond_frame (s : State) (o : Option Port) :
    (s.lessonSecond o).mem = s.mem ∧
      (s.lessonSecond o).timer = s.timer ∧
      (s.lessonSecond o).intake = s.intake ∧
      (s.lessonSecond o).light = s.light ∧
      (s.lessonSecond o).motion = s.motion ∧
      (s.lessonSecond o).view = s.view ∧
      (s.lessonSecond o).feed = s.feed ∧
      (s.lessonSecond o).tenancy = s.tenancy ∧
      (s.lessonSecond o).link = s.link ∧
      (s.lessonSecond o).params = s.params ∧
      (s.lessonSecond o).pending = s.pending := by
  unfold State.lessonSecond
  split
  · simp
  · split <;> simp

/-- clockTick leaves everything but pool, store, lesson, timeline, ports as it was. -/
@[simp] theorem State.clockTick_frame (s : State) (o : Option Port) :
    (s.clockTick o).mem = s.mem ∧
      (s.clockTick o).timer = s.timer ∧
      (s.clockTick o).intake = s.intake ∧
      (s.clockTick o).light = s.light ∧
      (s.clockTick o).motion = s.motion ∧
      (s.clockTick o).view = s.view ∧
      (s.clockTick o).feed = s.feed ∧
      (s.clockTick o).tenancy = s.tenancy ∧
      (s.clockTick o).link = s.link ∧
      (s.clockTick o).params = s.params ∧
      (s.clockTick o).pending = s.pending := by
  unfold State.clockTick
  dsimp only
  split <;> simp

/-- timelineDelivered leaves everything but lesson, timeline, ports as it was. -/
@[simp] theorem State.timelineDelivered_frame (s : State) :
    (s.timelineDelivered).mem = s.mem ∧
      (s.timelineDelivered).timer = s.timer ∧
      (s.timelineDelivered).pool = s.pool ∧
      (s.timelineDelivered).intake = s.intake ∧
      (s.timelineDelivered).light = s.light ∧
      (s.timelineDelivered).motion = s.motion ∧
      (s.timelineDelivered).view = s.view ∧
      (s.timelineDelivered).feed = s.feed ∧
      (s.timelineDelivered).tenancy = s.tenancy ∧
      (s.timelineDelivered).store = s.store ∧
      (s.timelineDelivered).link = s.link ∧
      (s.timelineDelivered).params = s.params ∧
      (s.timelineDelivered).pending = s.pending := by
  unfold State.timelineDelivered
  dsimp only
  split <;> simp

/-- timelineTick leaves everything but timeline as it was. -/
@[simp] theorem State.timelineTick_frame (s : State) :
    (s.timelineTick).mem = s.mem ∧
      (s.timelineTick).timer = s.timer ∧
      (s.timelineTick).pool = s.pool ∧
      (s.timelineTick).intake = s.intake ∧
      (s.timelineTick).light = s.light ∧
      (s.timelineTick).motion = s.motion ∧
      (s.timelineTick).view = s.view ∧
      (s.timelineTick).feed = s.feed ∧
      (s.timelineTick).tenancy = s.tenancy ∧
      (s.timelineTick).store = s.store ∧
      (s.timelineTick).lesson = s.lesson ∧
      (s.timelineTick).link = s.link ∧
      (s.timelineTick).params = s.params ∧
      (s.timelineTick).ports = s.ports ∧
      (s.timelineTick).pending = s.pending := by
  simp [State.timelineTick]

/-- setChan leaves everything but link as it was. -/
@[simp] theorem State.setChan_frame (s : State) (c : Channel) (x : Chan) :
    (s.setChan c x).mem = s.mem ∧
      (s.setChan c x).timer = s.timer ∧
      (s.setChan c x).pool = s.pool ∧
      (s.setChan c x).intake = s.intake ∧
      (s.setChan c x).light = s.light ∧
      (s.setChan c x).motion = s.motion ∧
      (s.setChan c x).view = s.view ∧
      (s.setChan c x).feed = s.feed ∧
      (s.setChan c x).tenancy = s.tenancy ∧
      (s.setChan c x).store = s.store ∧
      (s.setChan c x).lesson = s.lesson ∧
      (s.setChan c x).timeline = s.timeline ∧
      (s.setChan c x).params = s.params ∧
      (s.setChan c x).ports = s.ports ∧
      (s.setChan c x).pending = s.pending := by
  simp [State.setChan]

/-- haltChannel leaves everything but pool, store, link, ports as it was. -/
@[simp] theorem State.haltChannel_frame (s : State) (c : Channel) :
    (s.haltChannel c).mem = s.mem ∧
      (s.haltChannel c).timer = s.timer ∧
      (s.haltChannel c).intake = s.intake ∧
      (s.haltChannel c).light = s.light ∧
      (s.haltChannel c).motion = s.motion ∧
      (s.haltChannel c).view = s.view ∧
      (s.haltChannel c).feed = s.feed ∧
      (s.haltChannel c).tenancy = s.tenancy ∧
      (s.haltChannel c).lesson = s.lesson ∧
      (s.haltChannel c).timeline = s.timeline ∧
      (s.haltChannel c).params = s.params ∧
      (s.haltChannel c).pending = s.pending := by
  unfold State.haltChannel
  split <;> simp

/-- haltNow leaves everything but pool, store, timeline, link, ports as it was. -/
@[simp] theorem State.haltNow_frame (s : State) (c : HaltCause) :
    (s.haltNow c).mem = s.mem ∧
      (s.haltNow c).timer = s.timer ∧
      (s.haltNow c).intake = s.intake ∧
      (s.haltNow c).light = s.light ∧
      (s.haltNow c).motion = s.motion ∧
      (s.haltNow c).view = s.view ∧
      (s.haltNow c).feed = s.feed ∧
      (s.haltNow c).tenancy = s.tenancy ∧
      (s.haltNow c).lesson = s.lesson ∧
      (s.haltNow c).params = s.params ∧
      (s.haltNow c).pending = s.pending := by
  simp [State.haltNow]

/-- halt leaves everything but pool, store, timeline, link, ports as it was. -/
@[simp] theorem State.halt_frame (s : State) (c : HaltCause) :
    (s.halt c).mem = s.mem ∧
      (s.halt c).timer = s.timer ∧
      (s.halt c).intake = s.intake ∧
      (s.halt c).light = s.light ∧
      (s.halt c).motion = s.motion ∧
      (s.halt c).view = s.view ∧
      (s.halt c).feed = s.feed ∧
      (s.halt c).tenancy = s.tenancy ∧
      (s.halt c).lesson = s.lesson ∧
      (s.halt c).params = s.params ∧
      (s.halt c).pending = s.pending := by
  unfold State.halt
  split <;> simp

/-- linkTick leaves everything but pool, store, timeline, link, ports as it was. -/
@[simp] theorem State.linkTick_frame (s : State) :
    (s.linkTick).mem = s.mem ∧
      (s.linkTick).timer = s.timer ∧
      (s.linkTick).intake = s.intake ∧
      (s.linkTick).light = s.light ∧
      (s.linkTick).motion = s.motion ∧
      (s.linkTick).view = s.view ∧
      (s.linkTick).feed = s.feed ∧
      (s.linkTick).tenancy = s.tenancy ∧
      (s.linkTick).lesson = s.lesson ∧
      (s.linkTick).params = s.params ∧
      (s.linkTick).pending = s.pending := by
  unfold State.linkTick
  split
  · dsimp only
    split <;> simp
  · simp

/-- channelDone leaves everything but pool, store, link, ports as it was. -/
@[simp] theorem State.channelDone_frame (s : State) (c : Channel) (d : ChanData) :
    (s.channelDone c d).mem = s.mem ∧
      (s.channelDone c d).timer = s.timer ∧
      (s.channelDone c d).intake = s.intake ∧
      (s.channelDone c d).light = s.light ∧
      (s.channelDone c d).motion = s.motion ∧
      (s.channelDone c d).view = s.view ∧
      (s.channelDone c d).feed = s.feed ∧
      (s.channelDone c d).tenancy = s.tenancy ∧
      (s.channelDone c d).lesson = s.lesson ∧
      (s.channelDone c d).timeline = s.timeline ∧
      (s.channelDone c d).params = s.params ∧
      (s.channelDone c d).pending = s.pending := by
  unfold State.channelDone
  dsimp only
  split <;> simp

/-- pageDelivered leaves everything but pool, store, link, ports as it was. -/
@[simp] theorem State.pageDelivered_frame (s : State) (c : Channel) :
    (s.pageDelivered c).mem = s.mem ∧
      (s.pageDelivered c).timer = s.timer ∧
      (s.pageDelivered c).intake = s.intake ∧
      (s.pageDelivered c).light = s.light ∧
      (s.pageDelivered c).motion = s.motion ∧
      (s.pageDelivered c).view = s.view ∧
      (s.pageDelivered c).feed = s.feed ∧
      (s.pageDelivered c).tenancy = s.tenancy ∧
      (s.pageDelivered c).lesson = s.lesson ∧
      (s.pageDelivered c).timeline = s.timeline ∧
      (s.pageDelivered c).params = s.params ∧
      (s.pageDelivered c).pending = s.pending := by
  unfold State.pageDelivered
  split
  · split <;> simp
  · split <;> simp
  · simp

/-- delivered leaves everything but pool, store, lesson, timeline, link, ports as it was. -/
@[simp] theorem State.delivered_frame (s : State) (b : Block) :
    (s.delivered b).mem = s.mem ∧
      (s.delivered b).timer = s.timer ∧
      (s.delivered b).intake = s.intake ∧
      (s.delivered b).light = s.light ∧
      (s.delivered b).motion = s.motion ∧
      (s.delivered b).view = s.view ∧
      (s.delivered b).feed = s.feed ∧
      (s.delivered b).tenancy = s.tenancy ∧
      (s.delivered b).params = s.params ∧
      (s.delivered b).pending = s.pending := by
  unfold State.delivered
  split <;> simp

/-- lastByte leaves everything but pool, store, lesson, timeline, link, ports as it was. -/
@[simp] theorem State.lastByte_frame (s : State) :
    (s.lastByte).mem = s.mem ∧
      (s.lastByte).timer = s.timer ∧
      (s.lastByte).intake = s.intake ∧
      (s.lastByte).light = s.light ∧
      (s.lastByte).motion = s.motion ∧
      (s.lastByte).view = s.view ∧
      (s.lastByte).feed = s.feed ∧
      (s.lastByte).tenancy = s.tenancy ∧
      (s.lastByte).params = s.params ∧
      (s.lastByte).pending = s.pending := by
  unfold State.lastByte
  split <;> simp

/-- clockTransfer leaves everything but pool, store, lesson, timeline, link, ports as it was. -/
@[simp] theorem State.clockTransfer_frame (s : State) (n : Nat) :
    (s.clockTransfer n).mem = s.mem ∧
      (s.clockTransfer n).timer = s.timer ∧
      (s.clockTransfer n).intake = s.intake ∧
      (s.clockTransfer n).light = s.light ∧
      (s.clockTransfer n).motion = s.motion ∧
      (s.clockTransfer n).view = s.view ∧
      (s.clockTransfer n).feed = s.feed ∧
      (s.clockTransfer n).tenancy = s.tenancy ∧
      (s.clockTransfer n).params = s.params ∧
      (s.clockTransfer n).pending = s.pending := by
  unfold State.clockTransfer
  split
  · split
    · simp
    · split <;> simp
  · simp
  · simp

/-- closeTransfer leaves everything but pool, store, timeline, link, ports as it was. -/
@[simp] theorem State.closeTransfer_frame (s : State) :
    (s.closeTransfer).mem = s.mem ∧
      (s.closeTransfer).timer = s.timer ∧
      (s.closeTransfer).intake = s.intake ∧
      (s.closeTransfer).light = s.light ∧
      (s.closeTransfer).motion = s.motion ∧
      (s.closeTransfer).view = s.view ∧
      (s.closeTransfer).feed = s.feed ∧
      (s.closeTransfer).tenancy = s.tenancy ∧
      (s.closeTransfer).lesson = s.lesson ∧
      (s.closeTransfer).params = s.params ∧
      (s.closeTransfer).pending = s.pending := by
  unfold State.closeTransfer
  dsimp only
  split <;> simp

/-- beginDelivery leaves everything but link as it was. -/
@[simp] theorem State.beginDelivery_frame (s : State) (b : Block) (bs : List Byte) :
    (s.beginDelivery b bs).mem = s.mem ∧
      (s.beginDelivery b bs).timer = s.timer ∧
      (s.beginDelivery b bs).pool = s.pool ∧
      (s.beginDelivery b bs).intake = s.intake ∧
      (s.beginDelivery b bs).light = s.light ∧
      (s.beginDelivery b bs).motion = s.motion ∧
      (s.beginDelivery b bs).view = s.view ∧
      (s.beginDelivery b bs).feed = s.feed ∧
      (s.beginDelivery b bs).tenancy = s.tenancy ∧
      (s.beginDelivery b bs).store = s.store ∧
      (s.beginDelivery b bs).lesson = s.lesson ∧
      (s.beginDelivery b bs).timeline = s.timeline ∧
      (s.beginDelivery b bs).params = s.params ∧
      (s.beginDelivery b bs).ports = s.ports ∧
      (s.beginDelivery b bs).pending = s.pending := by
  simp [State.beginDelivery]

/-- sendBatch leaves everything but timeline, link as it was. -/
@[simp] theorem State.sendBatch_frame (s : State) :
    (s.sendBatch).mem = s.mem ∧
      (s.sendBatch).timer = s.timer ∧
      (s.sendBatch).pool = s.pool ∧
      (s.sendBatch).intake = s.intake ∧
      (s.sendBatch).light = s.light ∧
      (s.sendBatch).motion = s.motion ∧
      (s.sendBatch).view = s.view ∧
      (s.sendBatch).feed = s.feed ∧
      (s.sendBatch).tenancy = s.tenancy ∧
      (s.sendBatch).store = s.store ∧
      (s.sendBatch).lesson = s.lesson ∧
      (s.sendBatch).params = s.params ∧
      (s.sendBatch).ports = s.ports ∧
      (s.sendBatch).pending = s.pending := by
  simp [State.sendBatch]

/-- opened leaves everything but link as it was. -/
@[simp] theorem State.opened_frame (s : State) (x : Transfer) :
    (s.opened x).mem = s.mem ∧
      (s.opened x).timer = s.timer ∧
      (s.opened x).pool = s.pool ∧
      (s.opened x).intake = s.intake ∧
      (s.opened x).light = s.light ∧
      (s.opened x).motion = s.motion ∧
      (s.opened x).view = s.view ∧
      (s.opened x).feed = s.feed ∧
      (s.opened x).tenancy = s.tenancy ∧
      (s.opened x).store = s.store ∧
      (s.opened x).lesson = s.lesson ∧
      (s.opened x).timeline = s.timeline ∧
      (s.opened x).params = s.params ∧
      (s.opened x).ports = s.ports ∧
      (s.opened x).pending = s.pending := by
  simp [State.opened]

/-- commit leaves everything but view, timeline as it was. -/
@[simp] theorem State.commit_frame (s : State) :
    (s.commit).mem = s.mem ∧
      (s.commit).timer = s.timer ∧
      (s.commit).pool = s.pool ∧
      (s.commit).intake = s.intake ∧
      (s.commit).light = s.light ∧
      (s.commit).motion = s.motion ∧
      (s.commit).feed = s.feed ∧
      (s.commit).tenancy = s.tenancy ∧
      (s.commit).store = s.store ∧
      (s.commit).lesson = s.lesson ∧
      (s.commit).link = s.link ∧
      (s.commit).params = s.params ∧
      (s.commit).ports = s.ports ∧
      (s.commit).pending = s.pending := by
  simp [State.commit]

/-- releaseFeed leaves everything but pool, feed, store, ports as it was. -/
@[simp] theorem State.releaseFeed_frame (s : State) :
    (s.releaseFeed).mem = s.mem ∧
      (s.releaseFeed).timer = s.timer ∧
      (s.releaseFeed).intake = s.intake ∧
      (s.releaseFeed).light = s.light ∧
      (s.releaseFeed).motion = s.motion ∧
      (s.releaseFeed).view = s.view ∧
      (s.releaseFeed).tenancy = s.tenancy ∧
      (s.releaseFeed).lesson = s.lesson ∧
      (s.releaseFeed).timeline = s.timeline ∧
      (s.releaseFeed).link = s.link ∧
      (s.releaseFeed).params = s.params ∧
      (s.releaseFeed).pending = s.pending := by
  simp [State.releaseFeed]

/-- enterFeed leaves everything but feed, ports as it was. -/
@[simp] theorem State.enterFeed_frame (s : State) (f : Feed) (c : FeedCause) :
    (s.enterFeed f c).mem = s.mem ∧
      (s.enterFeed f c).timer = s.timer ∧
      (s.enterFeed f c).pool = s.pool ∧
      (s.enterFeed f c).intake = s.intake ∧
      (s.enterFeed f c).light = s.light ∧
      (s.enterFeed f c).motion = s.motion ∧
      (s.enterFeed f c).view = s.view ∧
      (s.enterFeed f c).tenancy = s.tenancy ∧
      (s.enterFeed f c).store = s.store ∧
      (s.enterFeed f c).lesson = s.lesson ∧
      (s.enterFeed f c).timeline = s.timeline ∧
      (s.enterFeed f c).link = s.link ∧
      (s.enterFeed f c).params = s.params ∧
      (s.enterFeed f c).pending = s.pending := by
  simp [State.enterFeed]

/-- pinSources leaves everything but pool, feed as it was. -/
@[simp] theorem State.pinSources_frame (s : State) :
    (s.pinSources).mem = s.mem ∧
      (s.pinSources).timer = s.timer ∧
      (s.pinSources).intake = s.intake ∧
      (s.pinSources).light = s.light ∧
      (s.pinSources).motion = s.motion ∧
      (s.pinSources).view = s.view ∧
      (s.pinSources).tenancy = s.tenancy ∧
      (s.pinSources).store = s.store ∧
      (s.pinSources).lesson = s.lesson ∧
      (s.pinSources).timeline = s.timeline ∧
      (s.pinSources).link = s.link ∧
      (s.pinSources).params = s.params ∧
      (s.pinSources).ports = s.ports ∧
      (s.pinSources).pending = s.pending := by
  simp [State.pinSources]

/-- blankAreas leaves everything but feed as it was. -/
@[simp] theorem State.blankAreas_frame (s : State) :
    (s.blankAreas).mem = s.mem ∧
      (s.blankAreas).timer = s.timer ∧
      (s.blankAreas).pool = s.pool ∧
      (s.blankAreas).intake = s.intake ∧
      (s.blankAreas).light = s.light ∧
      (s.blankAreas).motion = s.motion ∧
      (s.blankAreas).view = s.view ∧
      (s.blankAreas).tenancy = s.tenancy ∧
      (s.blankAreas).store = s.store ∧
      (s.blankAreas).lesson = s.lesson ∧
      (s.blankAreas).timeline = s.timeline ∧
      (s.blankAreas).link = s.link ∧
      (s.blankAreas).params = s.params ∧
      (s.blankAreas).ports = s.ports ∧
      (s.blankAreas).pending = s.pending := by
  simp [State.blankAreas]

/-- beginRunning leaves everything but pool, feed as it was. -/
@[simp] theorem State.beginRunning_frame (s : State) :
    (s.beginRunning).mem = s.mem ∧
      (s.beginRunning).timer = s.timer ∧
      (s.beginRunning).intake = s.intake ∧
      (s.beginRunning).light = s.light ∧
      (s.beginRunning).motion = s.motion ∧
      (s.beginRunning).view = s.view ∧
      (s.beginRunning).tenancy = s.tenancy ∧
      (s.beginRunning).store = s.store ∧
      (s.beginRunning).lesson = s.lesson ∧
      (s.beginRunning).timeline = s.timeline ∧
      (s.beginRunning).link = s.link ∧
      (s.beginRunning).params = s.params ∧
      (s.beginRunning).ports = s.ports ∧
      (s.beginRunning).pending = s.pending := by
  unfold State.beginRunning
  split <;> simp

/-- startFeed leaves everything but feed, ports as it was. -/
@[simp] theorem State.startFeed_frame (s : State) :
    (s.startFeed).mem = s.mem ∧
      (s.startFeed).timer = s.timer ∧
      (s.startFeed).pool = s.pool ∧
      (s.startFeed).intake = s.intake ∧
      (s.startFeed).light = s.light ∧
      (s.startFeed).motion = s.motion ∧
      (s.startFeed).view = s.view ∧
      (s.startFeed).tenancy = s.tenancy ∧
      (s.startFeed).store = s.store ∧
      (s.startFeed).lesson = s.lesson ∧
      (s.startFeed).timeline = s.timeline ∧
      (s.startFeed).link = s.link ∧
      (s.startFeed).params = s.params ∧
      (s.startFeed).pending = s.pending := by
  simp [State.startFeed]

/-- beginFrame leaves everything but pool, feed, ports as it was. -/
@[simp] theorem State.beginFrame_frame (s : State) :
    (s.beginFrame).mem = s.mem ∧
      (s.beginFrame).timer = s.timer ∧
      (s.beginFrame).intake = s.intake ∧
      (s.beginFrame).light = s.light ∧
      (s.beginFrame).motion = s.motion ∧
      (s.beginFrame).view = s.view ∧
      (s.beginFrame).tenancy = s.tenancy ∧
      (s.beginFrame).store = s.store ∧
      (s.beginFrame).lesson = s.lesson ∧
      (s.beginFrame).timeline = s.timeline ∧
      (s.beginFrame).link = s.link ∧
      (s.beginFrame).params = s.params ∧
      (s.beginFrame).pending = s.pending := by
  unfold State.beginFrame
  split
  · simp
  · split <;> simp
  · simp

/-- frameBegin leaves everything but pool, feed, store, ports as it was. -/
@[simp] theorem State.frameBegin_frame (s : State) :
    (s.frameBegin).mem = s.mem ∧
      (s.frameBegin).timer = s.timer ∧
      (s.frameBegin).intake = s.intake ∧
      (s.frameBegin).light = s.light ∧
      (s.frameBegin).motion = s.motion ∧
      (s.frameBegin).view = s.view ∧
      (s.frameBegin).tenancy = s.tenancy ∧
      (s.frameBegin).lesson = s.lesson ∧
      (s.frameBegin).timeline = s.timeline ∧
      (s.frameBegin).link = s.link ∧
      (s.frameBegin).params = s.params ∧
      (s.frameBegin).pending = s.pending := by
  simp [State.frameBegin]

/-- commitAndBegin leaves everything but pool, view, feed, store, timeline, ports as it was. -/
@[simp] theorem State.commitAndBegin_frame (s : State) :
    (s.commitAndBegin).mem = s.mem ∧
      (s.commitAndBegin).timer = s.timer ∧
      (s.commitAndBegin).intake = s.intake ∧
      (s.commitAndBegin).light = s.light ∧
      (s.commitAndBegin).motion = s.motion ∧
      (s.commitAndBegin).tenancy = s.tenancy ∧
      (s.commitAndBegin).lesson = s.lesson ∧
      (s.commitAndBegin).link = s.link ∧
      (s.commitAndBegin).params = s.params ∧
      (s.commitAndBegin).pending = s.pending := by
  simp [State.commitAndBegin]

/-- malformed leaves everything but intake as it was. -/
@[simp] theorem State.malformed_frame (s : State) :
    (s.malformed).mem = s.mem ∧
      (s.malformed).timer = s.timer ∧
      (s.malformed).pool = s.pool ∧
      (s.malformed).light = s.light ∧
      (s.malformed).motion = s.motion ∧
      (s.malformed).view = s.view ∧
      (s.malformed).feed = s.feed ∧
      (s.malformed).tenancy = s.tenancy ∧
      (s.malformed).store = s.store ∧
      (s.malformed).lesson = s.lesson ∧
      (s.malformed).timeline = s.timeline ∧
      (s.malformed).link = s.link ∧
      (s.malformed).params = s.params ∧
      (s.malformed).ports = s.ports ∧
      (s.malformed).pending = s.pending := by
  simp [State.malformed]

/-- stall leaves everything but intake, light, motion, store, ports as it was. -/
@[simp] theorem State.stall_frame (s : State) :
    (s.stall).mem = s.mem ∧
      (s.stall).timer = s.timer ∧
      (s.stall).pool = s.pool ∧
      (s.stall).view = s.view ∧
      (s.stall).feed = s.feed ∧
      (s.stall).tenancy = s.tenancy ∧
      (s.stall).lesson = s.lesson ∧
      (s.stall).timeline = s.timeline ∧
      (s.stall).link = s.link ∧
      (s.stall).params = s.params ∧
      (s.stall).pending = s.pending := by
  simp [State.stall]

/-- countOutputFrame leaves everything but intake, light, motion, store, ports as it was. -/
@[simp] theorem State.countOutputFrame_frame (s : State) :
    (s.countOutputFrame).mem = s.mem ∧
      (s.countOutputFrame).timer = s.timer ∧
      (s.countOutputFrame).pool = s.pool ∧
      (s.countOutputFrame).view = s.view ∧
      (s.countOutputFrame).feed = s.feed ∧
      (s.countOutputFrame).tenancy = s.tenancy ∧
      (s.countOutputFrame).lesson = s.lesson ∧
      (s.countOutputFrame).timeline = s.timeline ∧
      (s.countOutputFrame).link = s.link ∧
      (s.countOutputFrame).params = s.params ∧
      (s.countOutputFrame).pending = s.pending := by
  unfold State.countOutputFrame
  dsimp only
  split <;> simp

/-- askWriteBuffer leaves everything but pool, intake as it was. -/
@[simp] theorem State.askWriteBuffer_frame (s : State) :
    (s.askWriteBuffer).mem = s.mem ∧
      (s.askWriteBuffer).timer = s.timer ∧
      (s.askWriteBuffer).light = s.light ∧
      (s.askWriteBuffer).motion = s.motion ∧
      (s.askWriteBuffer).view = s.view ∧
      (s.askWriteBuffer).feed = s.feed ∧
      (s.askWriteBuffer).tenancy = s.tenancy ∧
      (s.askWriteBuffer).store = s.store ∧
      (s.askWriteBuffer).lesson = s.lesson ∧
      (s.askWriteBuffer).timeline = s.timeline ∧
      (s.askWriteBuffer).link = s.link ∧
      (s.askWriteBuffer).params = s.params ∧
      (s.askWriteBuffer).ports = s.ports ∧
      (s.askWriteBuffer).pending = s.pending := by
  unfold State.askWriteBuffer
  split <;> simp

/-- frameStart leaves everything but pool, intake, light as it was. -/
@[simp] theorem State.frameStart_frame (s : State) :
    (s.frameStart).mem = s.mem ∧
      (s.frameStart).timer = s.timer ∧
      (s.frameStart).motion = s.motion ∧
      (s.frameStart).view = s.view ∧
      (s.frameStart).feed = s.feed ∧
      (s.frameStart).tenancy = s.tenancy ∧
      (s.frameStart).store = s.store ∧
      (s.frameStart).lesson = s.lesson ∧
      (s.frameStart).timeline = s.timeline ∧
      (s.frameStart).link = s.link ∧
      (s.frameStart).params = s.params ∧
      (s.frameStart).ports = s.ports ∧
      (s.frameStart).pending = s.pending := by
  simp [State.frameStart]

/-- liftStall leaves everything but light, ports as it was. -/
@[simp] theorem State.liftStall_frame (s : State) :
    (s.liftStall).mem = s.mem ∧
      (s.liftStall).timer = s.timer ∧
      (s.liftStall).pool = s.pool ∧
      (s.liftStall).intake = s.intake ∧
      (s.liftStall).motion = s.motion ∧
      (s.liftStall).view = s.view ∧
      (s.liftStall).feed = s.feed ∧
      (s.liftStall).tenancy = s.tenancy ∧
      (s.liftStall).store = s.store ∧
      (s.liftStall).lesson = s.lesson ∧
      (s.liftStall).timeline = s.timeline ∧
      (s.liftStall).link = s.link ∧
      (s.liftStall).params = s.params ∧
      (s.liftStall).pending = s.pending := by
  unfold State.liftStall
  split <;> simp

/-- sendReport leaves everything but light, motion as it was. -/
@[simp] theorem State.sendReport_frame (s : State) (r : Report) (e : Bool) :
    (s.sendReport r e).mem = s.mem ∧
      (s.sendReport r e).timer = s.timer ∧
      (s.sendReport r e).pool = s.pool ∧
      (s.sendReport r e).intake = s.intake ∧
      (s.sendReport r e).view = s.view ∧
      (s.sendReport r e).feed = s.feed ∧
      (s.sendReport r e).tenancy = s.tenancy ∧
      (s.sendReport r e).store = s.store ∧
      (s.sendReport r e).lesson = s.lesson ∧
      (s.sendReport r e).timeline = s.timeline ∧
      (s.sendReport r e).link = s.link ∧
      (s.sendReport r e).params = s.params ∧
      (s.sendReport r e).ports = s.ports ∧
      (s.sendReport r e).pending = s.pending := by
  simp [State.sendReport]

/-- complete leaves everything but pool, intake, light, motion, ports as it was. -/
@[simp] theorem State.complete_frame (s : State) (b : BufId) :
    (s.complete b).mem = s.mem ∧
      (s.complete b).timer = s.timer ∧
      (s.complete b).view = s.view ∧
      (s.complete b).feed = s.feed ∧
      (s.complete b).tenancy = s.tenancy ∧
      (s.complete b).store = s.store ∧
      (s.complete b).lesson = s.lesson ∧
      (s.complete b).timeline = s.timeline ∧
      (s.complete b).link = s.link ∧
      (s.complete b).params = s.params ∧
      (s.complete b).pending = s.pending := by
  simp [State.complete]

/-- lightReport leaves everything but light as it was. -/
@[simp] theorem State.lightReport_frame (s : State) :
    (s.lightReport).mem = s.mem ∧
      (s.lightReport).timer = s.timer ∧
      (s.lightReport).pool = s.pool ∧
      (s.lightReport).intake = s.intake ∧
      (s.lightReport).motion = s.motion ∧
      (s.lightReport).view = s.view ∧
      (s.lightReport).feed = s.feed ∧
      (s.lightReport).tenancy = s.tenancy ∧
      (s.lightReport).store = s.store ∧
      (s.lightReport).lesson = s.lesson ∧
      (s.lightReport).timeline = s.timeline ∧
      (s.lightReport).link = s.link ∧
      (s.lightReport).params = s.params ∧
      (s.lightReport).ports = s.ports ∧
      (s.lightReport).pending = s.pending := by
  unfold State.lightReport
  split <;> simp

/-- motionReport leaves everything but motion, store as it was. -/
@[simp] theorem State.motionReport_frame (s : State) :
    (s.motionReport).mem = s.mem ∧
      (s.motionReport).timer = s.timer ∧
      (s.motionReport).pool = s.pool ∧
      (s.motionReport).intake = s.intake ∧
      (s.motionReport).light = s.light ∧
      (s.motionReport).view = s.view ∧
      (s.motionReport).feed = s.feed ∧
      (s.motionReport).tenancy = s.tenancy ∧
      (s.motionReport).lesson = s.lesson ∧
      (s.motionReport).timeline = s.timeline ∧
      (s.motionReport).link = s.link ∧
      (s.motionReport).params = s.params ∧
      (s.motionReport).ports = s.ports ∧
      (s.motionReport).pending = s.pending := by
  unfold State.motionReport
  split <;> simp

/-- The report that ends a stall finds no previous thumbnail (R29, R53). -/
@[simp] theorem Motion.found_endsStall (m : Motion) : m.found true = none := rfl

/-- Any other report finds the one the meter holds (R49). -/
@[simp] theorem Motion.found_other (m : Motion) : m.found false = m.previous := rfl

/-- A report that finds no previous thumbnail has no score and no fire mark, and its thumbnail becomes the previous one (R49). -/
theorem Motion.report_unscored (m : Motion) (r : MeterReport) (params : Params) (h : m.found r.endsStall = none) :
    m.report r params = ({ m with previous := some r.report.thumb }, false) := by simp [Motion.report, h]

/-- atMoment leaves everything but timer, light as it was. -/
@[simp] theorem State.atMoment_frame (s : State) (l : Light) :
    (s.atMoment l).mem = s.mem ∧
      (s.atMoment l).pool = s.pool ∧
      (s.atMoment l).intake = s.intake ∧
      (s.atMoment l).motion = s.motion ∧
      (s.atMoment l).view = s.view ∧
      (s.atMoment l).feed = s.feed ∧
      (s.atMoment l).tenancy = s.tenancy ∧
      (s.atMoment l).store = s.store ∧
      (s.atMoment l).lesson = s.lesson ∧
      (s.atMoment l).timeline = s.timeline ∧
      (s.atMoment l).link = s.link ∧
      (s.atMoment l).params = s.params ∧
      (s.atMoment l).ports = s.ports ∧
      (s.atMoment l).pending = s.pending := by
  simp [State.atMoment]

/-- microsecond leaves everything but timer, light as it was. -/
@[simp] theorem State.microsecond_frame (s : State) :
    (s.microsecond).mem = s.mem ∧
      (s.microsecond).pool = s.pool ∧
      (s.microsecond).intake = s.intake ∧
      (s.microsecond).motion = s.motion ∧
      (s.microsecond).view = s.view ∧
      (s.microsecond).feed = s.feed ∧
      (s.microsecond).tenancy = s.tenancy ∧
      (s.microsecond).store = s.store ∧
      (s.microsecond).lesson = s.lesson ∧
      (s.microsecond).timeline = s.timeline ∧
      (s.microsecond).link = s.link ∧
      (s.microsecond).params = s.params ∧
      (s.microsecond).ports = s.ports ∧
      (s.microsecond).pending = s.pending := by
  simp [State.microsecond]

/-- releaseHeld leaves everything but pool as it was. -/
@[simp] theorem State.releaseHeld_frame (s : State) :
    (s.releaseHeld).mem = s.mem ∧
      (s.releaseHeld).timer = s.timer ∧
      (s.releaseHeld).intake = s.intake ∧
      (s.releaseHeld).light = s.light ∧
      (s.releaseHeld).motion = s.motion ∧
      (s.releaseHeld).view = s.view ∧
      (s.releaseHeld).feed = s.feed ∧
      (s.releaseHeld).tenancy = s.tenancy ∧
      (s.releaseHeld).store = s.store ∧
      (s.releaseHeld).lesson = s.lesson ∧
      (s.releaseHeld).timeline = s.timeline ∧
      (s.releaseHeld).link = s.link ∧
      (s.releaseHeld).params = s.params ∧
      (s.releaseHeld).ports = s.ports ∧
      (s.releaseHeld).pending = s.pending := by
  unfold State.releaseHeld
  split <;> simp

/-- withStaged leaves everything but view as it was. -/
@[simp] theorem State.withStaged_frame (s : State) (v : ViewRec) :
    (s.withStaged v).mem = s.mem ∧
      (s.withStaged v).timer = s.timer ∧
      (s.withStaged v).pool = s.pool ∧
      (s.withStaged v).intake = s.intake ∧
      (s.withStaged v).light = s.light ∧
      (s.withStaged v).motion = s.motion ∧
      (s.withStaged v).feed = s.feed ∧
      (s.withStaged v).tenancy = s.tenancy ∧
      (s.withStaged v).store = s.store ∧
      (s.withStaged v).lesson = s.lesson ∧
      (s.withStaged v).timeline = s.timeline ∧
      (s.withStaged v).link = s.link ∧
      (s.withStaged v).params = s.params ∧
      (s.withStaged v).ports = s.ports ∧
      (s.withStaged v).pending = s.pending := by
  simp [State.withStaged]

/-- lose leaves everything but pool, view, tenancy, store, timeline, link, ports as it was. -/
@[simp] theorem State.lose_frame (s : State) (p : Port) :
    (s.lose p).mem = s.mem ∧
      (s.lose p).timer = s.timer ∧
      (s.lose p).intake = s.intake ∧
      (s.lose p).light = s.light ∧
      (s.lose p).motion = s.motion ∧
      (s.lose p).feed = s.feed ∧
      (s.lose p).lesson = s.lesson ∧
      (s.lose p).params = s.params ∧
      (s.lose p).pending = s.pending := by
  unfold State.lose
  dsimp only
  split <;> simp

/-- ownerActs leaves everything but view, tenancy, lesson, timeline, ports as it was. -/
@[simp] theorem State.ownerActs_frame (s : State) (i v : Nat) :
    (s.ownerActs i v).mem = s.mem ∧
      (s.ownerActs i v).timer = s.timer ∧
      (s.ownerActs i v).pool = s.pool ∧
      (s.ownerActs i v).intake = s.intake ∧
      (s.ownerActs i v).light = s.light ∧
      (s.ownerActs i v).motion = s.motion ∧
      (s.ownerActs i v).feed = s.feed ∧
      (s.ownerActs i v).store = s.store ∧
      (s.ownerActs i v).link = s.link ∧
      (s.ownerActs i v).params = s.params ∧
      (s.ownerActs i v).pending = s.pending := by
  unfold State.ownerActs
  split
  · simp
  · simp
  · simp
  · split <;> simp
  · simp

/-- readFault leaves everything but feed, ports as it was. -/
@[simp] theorem State.readFault_frame (s : State) (w : FeedArea) (a : Area) (b : BufId) (f : FaultPlace) :
    (s.readFault w a b f).mem = s.mem ∧
      (s.readFault w a b f).timer = s.timer ∧
      (s.readFault w a b f).pool = s.pool ∧
      (s.readFault w a b f).intake = s.intake ∧
      (s.readFault w a b f).light = s.light ∧
      (s.readFault w a b f).motion = s.motion ∧
      (s.readFault w a b f).view = s.view ∧
      (s.readFault w a b f).tenancy = s.tenancy ∧
      (s.readFault w a b f).store = s.store ∧
      (s.readFault w a b f).lesson = s.lesson ∧
      (s.readFault w a b f).timeline = s.timeline ∧
      (s.readFault w a b f).link = s.link ∧
      (s.readFault w a b f).params = s.params ∧
      (s.readFault w a b f).pending = s.pending := by
  simp [State.readFault]

/-- askBlock leaves everything but ports as it was. -/
@[simp] theorem State.askBlock_frame (s : State) (p : Port) (b : SummaryBlock) :
    (s.askBlock p b).mem = s.mem ∧
      (s.askBlock p b).timer = s.timer ∧
      (s.askBlock p b).pool = s.pool ∧
      (s.askBlock p b).intake = s.intake ∧
      (s.askBlock p b).light = s.light ∧
      (s.askBlock p b).motion = s.motion ∧
      (s.askBlock p b).view = s.view ∧
      (s.askBlock p b).feed = s.feed ∧
      (s.askBlock p b).tenancy = s.tenancy ∧
      (s.askBlock p b).store = s.store ∧
      (s.askBlock p b).lesson = s.lesson ∧
      (s.askBlock p b).timeline = s.timeline ∧
      (s.askBlock p b).link = s.link ∧
      (s.askBlock p b).params = s.params ∧
      (s.askBlock p b).pending = s.pending := by
  unfold State.askBlock
  split
  · simp
  · split <;> simp

/-- dropAnswers leaves everything but ports as it was. -/
@[simp] theorem State.dropAnswers_frame (s : State) (p : Port) :
    (s.dropAnswers p).mem = s.mem ∧
      (s.dropAnswers p).timer = s.timer ∧
      (s.dropAnswers p).pool = s.pool ∧
      (s.dropAnswers p).intake = s.intake ∧
      (s.dropAnswers p).light = s.light ∧
      (s.dropAnswers p).motion = s.motion ∧
      (s.dropAnswers p).view = s.view ∧
      (s.dropAnswers p).feed = s.feed ∧
      (s.dropAnswers p).tenancy = s.tenancy ∧
      (s.dropAnswers p).store = s.store ∧
      (s.dropAnswers p).lesson = s.lesson ∧
      (s.dropAnswers p).timeline = s.timeline ∧
      (s.dropAnswers p).link = s.link ∧
      (s.dropAnswers p).params = s.params ∧
      (s.dropAnswers p).pending = s.pending := by
  simp [State.dropAnswers]

end Sys2Proof.Machine
end

