-- ==== Sys2Proof/Laws/Ports.lean ====
section
/-! SUPPORT. Port laws: reading a port record after an update, what a posted notice can do to one, what each shared operation
keeps of every port record, the reply that carrying out a request places, and the blocks' answers to a part summary.
-/
namespace Sys2Proof.Machine

theorem Ports.get_set_same (ps : Ports) (p : Port) (r : PortRec) : (ps.set p r).get p = r := by cases p <;> rfl

theorem Ports.get_set_other (ps : Ports) (p q : Port) (r : PortRec) (h : q ≠ p) : (ps.set p r).get q = ps.get q := by
  cases p <;> cases q <;> first | rfl | exact absurd rfl h

@[simp] theorem State.port_setPort_same (s : State) (p : Port) (r : PortRec) : (s.setPort p r).port p = r := by
  simp [State.port, State.setPort, Ports.get_set_same]

theorem State.port_setPort_other (s : State) (p q : Port) (r : PortRec) (h : q ≠ p) :
    (s.setPort p r).port q = s.port q := by
  simp [State.port, State.setPort, Ports.get_set_other _ _ _ _ h]

/-- A port record is read from the port records alone. -/
theorem State.port_of_ports {s t : State} (h : t.ports = s.ports) (p : Port) : t.port p = s.port p := by
  simp [State.port, h]

/-- A notice changes neither the slots, the taking order, the presence field, the mask, a transaction that is no FETCH, the
bytes driven nor a summary's answers (R183). -/
@[simp] theorem PortRec.take_keeps (r : PortRec) (n : Notice) :
    (r.take n).slots = r.slots ∧ (r.take n).order = r.order ∧ (r.take n).present = r.present ∧
      (r.take n).mask = r.mask ∧ (r.take n).write = r.write ∧ (r.take n).driven = r.driven ∧
      (r.take n).answers = r.answers := by
  unfold PortRec.take
  split
  · simp
  · split
    · simp
    · split <;> simp

/-- A port never holds more than 16 notices (R179, R183). -/
theorem PortRec.take_room (r : PortRec) (n : Notice) (h : r.notices.length ≤ 16) : (r.take n).notices.length ≤ 16 := by
  unfold PortRec.take
  split
  · exact h
  · split
    · exact h
    · split
      · exact h
      · simp [Config.noticeRoom] at *; omega

/-- What an operation may do to the port records: the notices, the lost flag and the mark of a drop, nothing else. -/
def State.portsKept (s t : State) : Prop :=
  ∀ p, (t.port p).slots = (s.port p).slots ∧ (t.port p).order = (s.port p).order ∧
    (t.port p).present = (s.port p).present ∧ (t.port p).mask = (s.port p).mask ∧ (t.port p).write = (s.port p).write ∧
    (t.port p).driven = (s.port p).driven ∧ (t.port p).answers = (s.port p).answers

theorem State.portsKept_of_ports {s t : State} (h : t.ports = s.ports) : s.portsKept t := by
  intro p
  simp [State.port_of_ports h p]

theorem State.portsKept_refl (s : State) : s.portsKept s := State.portsKept_of_ports rfl

theorem State.portsKept_trans {s t u : State} (h : s.portsKept t) (k : t.portsKept u) : s.portsKept u := by
  intro p
  have a := h p
  have b := k p
  simp_all

theorem State.port_postAll (s : State) (n : Notice) (o : Option Port) (p : Port) :
    (s.postAll n o).port p = if o = some p then s.port p else (s.port p).take n := by
  cases p <;> rfl

theorem State.portsKept_post (s : State) (p : Port) (n : Notice) : s.portsKept (s.post p n) := by
  intro q
  by_cases h : q = p
  · subst h
    simp [State.post]
  · simp [State.post, State.port_setPort_other _ _ _ _ h]

theorem State.portsKept_postAll (s : State) (n : Notice) (o : Option Port) : s.portsKept (s.postAll n o) := by
  intro q
  rw [State.port_postAll]
  split <;> simp

/-- After a step that leaves the port records alone, a step that keeps them keeps them. -/
theorem State.portsKept_after {s t u : State} (h : t.ports = s.ports) (k : t.portsKept u) : s.portsKept u :=
  State.portsKept_trans (State.portsKept_of_ports h) k

theorem State.portsKept_before {s t u : State} (h : s.portsKept t) (k : u.ports = t.ports) : s.portsKept u :=
  State.portsKept_trans h (State.portsKept_of_ports k)

theorem State.portsKept_foldl {α : Type} (f : State → α → State) (h : ∀ a b, State.portsKept a (f a b)) (l : List α) (s : State) :
    s.portsKept (l.foldl f s) := by
  induction l generalizing s with
  | nil => exact s.portsKept_refl
  | cons b l ih => exact State.portsKept_trans (h s b) (ih (f s b))

theorem State.portsKept_grantBest (s : State) (c : TenancyCause) (b : Bool) : s.portsKept (s.grantBest c b) := by
  unfold State.grantBest
  split
  · exact s.portsKept_refl
  · dsimp only
    refine State.portsKept_trans ?_ (State.portsKept_post _ _ _)
    split
    · split
      · exact State.portsKept_after (by simp) (State.portsKept_post _ _ _)
      · exact State.portsKept_of_ports (by simp)
    · exact State.portsKept_of_ports (by simp)

theorem State.portsKept_evaluate (s : State) (n : Nat) : s.portsKept (State.evaluate n s) := by
  induction n generalizing s with
  | zero => exact s.portsKept_refl
  | succ n ih =>
    unfold State.evaluate
    split
    · exact State.portsKept_trans (State.portsKept_grantBest _ _ _) (ih _)
    · exact s.portsKept_refl

theorem State.portsKept_settle (s : State) : s.portsKept (s.settle) := by
  exact State.portsKept_evaluate _ _

theorem State.portsKept_passOn (s : State) (c : TenancyCause) : s.portsKept (s.passOn c) := by
  unfold State.passOn
  split
  · exact State.portsKept_of_ports (by simp)
  · exact State.portsKept_trans (State.portsKept_grantBest _ _ _) (State.portsKept_settle _)

theorem State.portsKept_tenancyReset (s : State) (p : Port) : s.portsKept (s.tenancyReset p) := by
  unfold State.tenancyReset
  split
  · exact State.portsKept_passOn _ _
  · exact State.portsKept_of_ports (by simp)

theorem State.portsKept_singleUseStep (s : State) : s.portsKept (s.singleUseStep) := by
  unfold State.singleUseStep
  split
  · exact State.portsKept_trans (State.portsKept_grantBest _ _ _) (State.portsKept_settle _)
  · exact s.portsKept_refl

theorem State.portsKept_tenancyTick (s : State) : s.portsKept (s.tenancyTick) := by
  exact State.portsKept_after (by simp) (State.portsKept_settle _)

theorem State.portsKept_pinsGone (s : State) (b : BufId) : s.portsKept (s.pinsGone b) := by
  unfold State.pinsGone
  split
  · exact State.portsKept_after (by simp) (State.portsKept_postAll _ _ _)
  · exact s.portsKept_refl

theorem State.portsKept_unpin (s : State) (b : BufId) : s.portsKept (s.unpin b) := by
  unfold State.unpin
  dsimp only
  split
  · exact State.portsKept_after (by simp) (State.portsKept_pinsGone _ _)
  · exact State.portsKept_of_ports (by simp)

theorem State.portsKept_unpin? (s : State) (b : Option BufId) : s.portsKept (s.unpin? b) := by
  cases b with
  | none => exact s.portsKept_refl
  | some b => exact State.portsKept_unpin s b

theorem State.portsKept_storing (s : State) (k : SlotId) (g : PageTag) (b : BufId) (i : FrameMeta) (o : Option Port) :
    s.portsKept (s.storing k g b i o).state := by
  unfold State.storing
  exact State.portsKept_after (t := s.withStore (s.store.stored k g (s.pageData b i))) (by simp)
    (State.portsKept_postAll _ (.pageStored k g.serial g.origin g.trigger i.frame) o)

theorem State.portsKept_storePage (s : State) (k : SlotId) (g : PageTag) (b : BufId) (i : FrameMeta) (o : Option Port) :
    s.portsKept (s.storePage k g b i o) := by
  exact State.portsKept_before (State.portsKept_storing s k g b i o) (by simp [State.storePage])

theorem State.portsKept_skipping (s : State) (g : Trigger) (c : SkipCause) (w : Word) :
    s.portsKept (s.skipping g c w).state :=
  State.portsKept_postAll s (.captureSkipped g c w) none

theorem State.portsKept_storingAuto (s : State) (k : SlotId) (g : Trigger) (b : BufId) (i : FrameMeta) (q : Pool) :
    s.portsKept (s.storingAuto k g b i q).state :=
  State.portsKept_after (by simp) (State.portsKept_storing _ _ _ _ _ _)

theorem State.portsKept_capturingTimed (s : State) : s.portsKept s.capturingTimed.state := by
  unfold State.capturingTimed
  split
  · exact State.portsKept_skipping _ _ _ _
  · split
    · exact State.portsKept_storingAuto _ _ _ _ _ _
    · exact State.portsKept_skipping _ _ _ _
    · exact State.portsKept_skipping _ _ _ _

/-- A timed capture that no LESSON_PAUSE meets (R130). -/
theorem State.portsKept_timedCapture (s : State) : s.portsKept (s.timedCapture none) :=
  State.portsKept_before (State.portsKept_capturingTimed s) (by simp [State.timedCapture])

theorem State.portsKept_fill (s : State) (r : Report) (k : SlotId) : s.portsKept (s.fill r k) := by
  unfold State.fill
  split
  · split
    · split
      · exact State.portsKept_after (by simp) (State.portsKept_storePage _ _ _ _ _ _)
      · exact s.portsKept_refl
    · exact s.portsKept_refl
  · exact s.portsKept_refl

theorem State.portsKept_fillAll (s : State) (r : Report) : s.portsKept (s.fillAll r) := by
  exact State.portsKept_foldl _ (fun a b => State.portsKept_fill a r b) _ s

theorem State.portsKept_capturingTurn (s : State) (r : Report) : s.portsKept (s.capturingTurn r).state := by
  unfold State.capturingTurn
  split
  · exact State.portsKept_skipping _ _ _ _
  · split
    · exact State.portsKept_skipping _ _ _ _
    · split
      · exact State.portsKept_storingAuto _ _ _ _ _ _
      · exact State.portsKept_skipping _ _ _ _
      · exact State.portsKept_skipping _ _ _ _

theorem State.portsKept_pageTurn (s : State) (r : Report) : s.portsKept (s.pageTurn r) :=
  State.portsKept_before (State.portsKept_capturingTurn s r) (by simp [State.pageTurn])

theorem State.portsKept_storeReport (s : State) (r : StoreReport) : s.portsKept (s.storeReport r) := by
  unfold State.storeReport
  dsimp only
  split
  · exact State.portsKept_trans (State.portsKept_fillAll _ _) (State.portsKept_pageTurn _ _)
  · exact State.portsKept_fillAll _ _

theorem State.portsKept_storeNextReport (s : State) : s.portsKept (s.storeNextReport) := by
  unfold State.storeNextReport
  split
  · exact s.portsKept_refl
  · exact State.portsKept_after (by simp) (State.portsKept_storeReport _ _)

theorem State.portsKept_failReservation (s : State) (k : SlotId) : s.portsKept (s.failReservation k) := by
  unfold State.failReservation
  split
  · exact State.portsKept_after (by simp) (State.portsKept_postAll _ _ _)
  · exact s.portsKept_refl

theorem State.portsKept_failReservations (s : State) : s.portsKept (s.failReservations) := by
  exact State.portsKept_foldl _ (fun a b => State.portsKept_failReservation a b) _ s

theorem State.portsKept_changeLesson (s : State) (l : Lesson) (c : LessonCause) : s.portsKept (s.changeLesson l c) := by
  exact State.portsKept_after (by simp) (State.portsKept_postAll _ _ _)

/-- A lesson second that no LESSON_PAUSE meets (R151). -/
theorem State.portsKept_lessonSecond (s : State) : s.portsKept (s.lessonSecond none) := by
  unfold State.lessonSecond
  split
  · exact s.portsKept_refl
  · split
    · exact State.portsKept_after (by simp) (State.portsKept_timedCapture _)
    · exact State.portsKept_of_ports (by simp)

/-- A tick at the lesson clock that no LESSON_PAUSE meets (R144). -/
theorem State.portsKept_clockTick (s : State) : s.portsKept (s.clockTick none) := by
  unfold State.clockTick
  dsimp only
  split
  · exact State.portsKept_after (by simp) (State.portsKept_lessonSecond _)
  · exact State.portsKept_of_ports (by simp)

theorem State.portsKept_timelineDelivered (s : State) : s.portsKept (s.timelineDelivered) := by
  unfold State.timelineDelivered
  dsimp only
  split
  · exact State.portsKept_after (by simp) (State.portsKept_changeLesson _ _ _)
  · exact State.portsKept_of_ports (by simp)

theorem State.portsKept_haltChannel (s : State) (c : Channel) : s.portsKept (s.haltChannel c) := by
  unfold State.haltChannel
  split
  · exact State.portsKept_after (by simp) (State.portsKept_unpin _ _)
  · exact s.portsKept_refl

theorem State.portsKept_haltNow (s : State) (c : HaltCause) : s.portsKept (s.haltNow c) := by
  unfold State.haltNow
  exact State.portsKept_trans
    (State.portsKept_before
      (State.portsKept_trans
        (State.portsKept_after (t := s.withLink { s.link with state := .halted c, halts := saturate16 s.link.halts, owed := [] })
          (by simp) (State.portsKept_haltChannel _ .ex0))
        (State.portsKept_haltChannel _ .ex1)) (by simp))
    (State.portsKept_postAll _ _ _)

theorem State.portsKept_halt (s : State) (c : HaltCause) : s.portsKept (s.halt c) := by
  unfold State.halt
  split
  · exact s.portsKept_refl
  · exact State.portsKept_haltNow _ _

theorem State.portsKept_linkTick (s : State) : s.portsKept (s.linkTick) := by
  unfold State.linkTick
  split
  · dsimp only
    split
    · exact State.portsKept_after (by simp) (State.portsKept_halt _ _)
    · exact State.portsKept_of_ports (by simp)
  · exact s.portsKept_refl

theorem State.portsKept_channelDone (s : State) (c : Channel) (d : ChanData) : s.portsKept (s.channelDone c d) := by
  unfold State.channelDone
  dsimp only
  refine State.portsKept_trans ?_ (State.portsKept_postAll _ _ _)
  refine State.portsKept_after ?_ (State.portsKept_unpin _ _)
  split <;> simp

theorem State.portsKept_pageDelivered (s : State) (c : Channel) : s.portsKept (s.pageDelivered c) := by
  unfold State.pageDelivered
  split
  · split
    · exact State.portsKept_channelDone _ _ _
    · exact State.portsKept_of_ports (by simp)
  · split
    · exact State.portsKept_channelDone _ _ _
    · exact State.portsKept_after (by simp) (State.portsKept_unpin _ _)
  · exact s.portsKept_refl

theorem State.portsKept_delivered (s : State) (b : Block) : s.portsKept (s.delivered b) := by
  unfold State.delivered
  split
  · exact State.portsKept_pageDelivered _ _
  · exact State.portsKept_timelineDelivered _

theorem State.portsKept_lastByte (s : State) : s.portsKept s.lastByte := by
  unfold State.lastByte
  split
  · exact State.portsKept_after (by simp) (State.portsKept_delivered _ _)
  · exact s.portsKept_refl

theorem State.portsKept_clockTransfer (s : State) (n : Nat) : s.portsKept (s.clockTransfer n) := by
  unfold State.clockTransfer
  split
  · split
    · exact s.portsKept_refl
    · split
      · exact State.portsKept_lastByte s
      · exact State.portsKept_of_ports (by simp)
  · exact State.portsKept_of_ports (by simp)
  · exact s.portsKept_refl

theorem State.portsKept_closeTransfer (s : State) : s.portsKept s.closeTransfer := by
  unfold State.closeTransfer
  dsimp only
  split
  · exact State.portsKept_after (by simp) (State.portsKept_halt _ _)
  · exact State.portsKept_of_ports (by simp)

theorem State.portsKept_enterFeed (s : State) (f : Feed) (c : FeedCause) : s.portsKept (s.enterFeed f c) := by
  exact State.portsKept_after (by simp) (State.portsKept_postAll _ _ _)

theorem State.portsKept_startFeed (s : State) : s.portsKept (s.startFeed) := by
  exact State.portsKept_enterFeed _ _ _

theorem State.portsKept_releaseFeed (s : State) : s.portsKept (s.releaseFeed) := by
  unfold State.releaseFeed
  exact State.portsKept_before
    (State.portsKept_trans (State.portsKept_unpin? s s.feed.first.pin) (State.portsKept_unpin? _ s.feed.second.pin))
    (by simp)

theorem State.portsKept_beginFrame (s : State) : s.portsKept (s.beginFrame) := by
  unfold State.beginFrame
  split
  · exact s.portsKept_refl
  · split
    · exact State.portsKept_of_ports (by simp)
    · exact State.portsKept_before (State.portsKept_startFeed s) (by simp)
  · exact State.portsKept_of_ports (by simp)

theorem State.portsKept_frameBegin (s : State) : s.portsKept (s.frameBegin) := by
  exact State.portsKept_trans (State.portsKept_releaseFeed _) (State.portsKept_beginFrame _)

theorem State.portsKept_commitAndBegin (s : State) : s.portsKept (s.commitAndBegin) := by
  exact State.portsKept_after (by simp) (State.portsKept_frameBegin _)

theorem State.portsKept_stall (s : State) : s.portsKept (s.stall) := by
  unfold State.stall
  exact State.portsKept_trans
    (State.portsKept_before
      (State.portsKept_after (t := s.withIntake s.intake.stall) (by simp)
        (State.portsKept_postAll _ (.intakeStalled s.intake.lastCompleted s.intake.completed) none)) (by simp))
    (State.portsKept_failReservations _)

theorem State.portsKept_countOutputFrame (s : State) : s.portsKept (s.countOutputFrame) := by
  unfold State.countOutputFrame
  dsimp only
  split
  · exact State.portsKept_after (by simp) (State.portsKept_stall _)
  · exact State.portsKept_of_ports (by simp)

theorem State.portsKept_liftStall (s : State) : s.portsKept (s.liftStall) := by
  unfold State.liftStall
  split
  · exact State.portsKept_after (by simp) (State.portsKept_postAll _ _ _)
  · exact s.portsKept_refl

theorem State.portsKept_complete (s : State) (b : BufId) : s.portsKept (s.complete b) := by
  unfold State.complete
  exact State.portsKept_before
    (State.portsKept_after (t := s.withPool (s.pool.markComplete b s.intake.info)) (by simp) (State.portsKept_liftStall _))
    (by simp)

theorem State.portsKept_readFault (s : State) (w : FeedArea) (a : Area) (b : BufId) (f : FaultPlace) : s.portsKept (s.readFault w a b f) := by
  exact State.portsKept_after (by simp) (State.portsKept_postAll _ _ _)

theorem State.portsKept_ownerActs (s : State) (i v : Nat) : s.portsKept (s.ownerActs i v) := by
  unfold State.ownerActs
  split
  · exact State.portsKept_after (by simp) (State.portsKept_settle _)
  · exact State.portsKept_settle _
  · exact State.portsKept_settle _
  · split
    · exact State.portsKept_of_ports (by simp)
    · exact s.portsKept_refl
  · exact s.portsKept_refl

/-! ### Replies (R181) -/

/-- Handing on changes only a WAITING slot, to EXECUTING with the same request (R181). -/
theorem PortRec.handOn_slot (r : PortRec) (k : Fin 4) :
    r.handOn.slots[k] = r.slots[k] ∨
      ∃ q, r.slots[k] = .waiting q ∧ r.handOn.slots[k] = .executing q := by
  unfold PortRec.handOn
  split
  · exact Or.inl rfl
  · split
    · rename_i j q h
      obtain ⟨i, _, hi⟩ := List.exists_of_findSome?_eq_some h
      simp only [Option.map_eq_some_iff] at hi
      obtain ⟨q', hq, he⟩ := hi
      obtain ⟨rfl, rfl⟩ := Prod.mk.inj he
      by_cases hk : i = k
      · subst hk
        refine Or.inr ⟨q', ?_, by simp⟩
        revert hq
        unfold Slot.waiting?
        split <;> simp_all
      · refine Or.inl ?_
        simp only [Fin.getElem_fin]
        exact Vector.getElem_set_ne _ _ (by simpa [Fin.ext_iff] using hk)
    · exact Or.inl rfl

/-- Handing on changes nothing but slots. -/
@[simp] theorem PortRec.handOn_keeps (r : PortRec) :
    r.handOn.present = r.present ∧ r.handOn.order = r.order ∧ r.handOn.notices = r.notices ∧ r.handOn.lost = r.lost ∧
      r.handOn.mask = r.mask ∧ r.handOn.fetch = r.fetch ∧ r.handOn.write = r.write ∧ r.handOn.driven = r.driven ∧
      r.handOn.answers = r.answers := by
  unfold PortRec.handOn
  split
  · simp
  · split <;> simp

/-- The slot of a request carried out holds its reply (R181). -/
theorem PortRec.placeReply_slot (r : PortRec) (k : Fin 4) (reply : Reply) :
    (r.placeReply k reply).slots[k] = .replied reply := by
  unfold PortRec.placeReply
  rcases PortRec.handOn_slot { r with slots := r.slots.set k (.replied reply) } k with h | ⟨q, h, _⟩
  · simpa using h
  · simp at h

/-- A reply changes nothing but slots. -/
@[simp] theorem PortRec.placeReply_keeps (r : PortRec) (k : Fin 4) (reply : Reply) :
    (r.placeReply k reply).present = r.present ∧ (r.placeReply k reply).order = r.order ∧
      (r.placeReply k reply).notices = r.notices ∧ (r.placeReply k reply).lost = r.lost ∧
      (r.placeReply k reply).mask = r.mask ∧ (r.placeReply k reply).fetch = r.fetch ∧
      (r.placeReply k reply).write = r.write ∧ (r.placeReply k reply).driven = r.driven ∧
      (r.placeReply k reply).answers = r.answers := by
  simp [PortRec.placeReply]

/-- The reply stands in the request's slot of its port (R181). -/
theorem State.reply_slot (s : State) (p : Port) (k : Fin 4) (q : Request) (status : Status) (results : List Byte) :
    ((s.reply p k q status results).port p).slots[k] = .replied { tag := q.tag, status := status, results := results } := by
  simp only [State.reply, State.port_setPort_same]
  exact PortRec.placeReply_slot _ _ _

/-- A reply leaves the other ports alone (R179). -/
theorem State.reply_other (s : State) (p r : Port) (k : Fin 4) (q : Request) (status : Status) (results : List Byte)
    (h : r ≠ p) : (s.reply p k q status results).port r = s.port r := by
  simp [State.reply, State.port_setPort_other _ _ _ _ h]

/-- A request that is meant and has an allowed length is served and answered (R181). -/
theorem State.serve_eq (s : State) (p : Port) (meant : Request → Bool) (body : Request → State → Answer) (k : Fin 4)
    (q : Request) (h : (s.port p).current = some (k, q)) (hm : meant q = true) (hl : lengthAllowed q = true) :
    s.serve p meant body = (body q s).state.reply p k q (body q s).status (body q s).results := by
  simp [State.serve, h, hm, hl]

/-- A request of a wrong length is answered BAD_LENGTH and goes no further (R181). -/
theorem State.serve_badLength (s : State) (p : Port) (meant : Request → Bool) (body : Request → State → Answer) (k : Fin 4)
    (q : Request) (h : (s.port p).current = some (k, q)) (hm : meant q = true) (hl : lengthAllowed q = false) :
    s.serve p meant body = s.reply p k q .badLength [] := by
  simp [State.serve, h, hm, hl]

/-! ### The part summary (R189) -/

/-- A block asked in a PART_READ that is handed on, and that has not answered yet, answers as it stands (R189). -/
theorem State.askBlock_answers (s : State) (p : Port) (b : SummaryBlock) (k : Fin 4) (q : Request)
    (h : (s.port p).current = some (k, q)) (hq : q.hasCode 0x01 = true) (hl : lengthAllowed q = true)
    (hb : (s.port p).answerOf b = none) :
    s.askBlock p b = s.setPort p ((s.port p).answered k q { block := b, bytes := s.blockSummary b }) := by
  simp [State.askBlock, h, hq, hl, hb]

/-- A block answers one PART_READ once (R189). -/
theorem State.askBlock_once (s : State) (p : Port) (b : SummaryBlock) (bytes : List Byte)
    (hb : (s.port p).answerOf b = some bytes) : s.askBlock p b = s := by
  unfold State.askBlock
  split
  · rfl
  · simp [hb]

/-- Asking a block leaves the other ports alone (R179). -/
theorem State.askBlock_other (s : State) (p r : Port) (b : SummaryBlock) (h : r ≠ p) :
    (s.askBlock p b).port r = s.port r := by
  unfold State.askBlock
  split
  · rfl
  · split
    · exact State.port_setPort_other _ _ _ _ h
    · rfl

/-- The holder's gated request is carried out with the idle time at 0 (R104). -/
theorem State.passTenancy_holder (s : State) (p : Port) (h : s.tenancy.holder = some p) :
    s.passTenancy p = some (s.withTenancy { s.tenancy with idle := 0 }) := by
  simp [State.passTenancy, h]

/-- Another port's gated request is refused (R104). -/
theorem State.passTenancy_other (s : State) (p h : Port) (hh : s.tenancy.holder = some h) (hp : h ≠ p) : s.passTenancy p = none := by
  simp [State.passTenancy, hh, hp]

/-- Without a single-use holder and a waiter, the single-use step does nothing (R110). -/
theorem State.singleUseStep_eq (s : State) (h : s.tenancy.singleUse = false ∨ s.tenancy.waiters = []) :
    s.singleUseStep = s := by
  unfold State.singleUseStep
  split
  · rename_i hc
    rcases h with h | h
    · simp [h] at hc
    · exact absurd h hc.2
  · rfl

/-- The record and the staged zoom target after a handover (R115). -/
theorem State.handover_effect (s : State) (t : Tenancy) (c : TenancyCause) :
    (s.handover t c).tenancy = { t with idle := 0 } ∧
      (s.handover t c).view = { s.view with staged := { s.view.staged with target := s.view.zoom } } := by
  simp [State.handover]

/-- The best waiter becomes the holder with the flags of its entry, which is removed (R107, R115). -/
theorem State.grantBest_tenancy (s : State) (c : TenancyCause) (b : Bool) (w : Waiter) (rest : List Waiter)
    (h : s.tenancy.waiters = w :: rest) :
    (s.grantBest c b).tenancy =
      { holder := some w.port, holdFast := w.holdFast, singleUse := w.singleUse, idle := 0, waiters := rest } := by
  unfold State.grantBest
  split
  · simp_all
  · rename_i w' rest' h'
    rw [h] at h'
    obtain ⟨rfl, rfl⟩ := List.cons.inj h'
    dsimp only
    split <;> (try split) <;> simp [(State.handover_effect _ _ _).1]

end Sys2Proof.Machine
end

