-- ==== Sys2Proof/Laws/Memory.lean ====
section
/-! SUPPORT. Memory laws: the canonical form of the frame memory is kept by every write and by every step that touches the
memory, and a byte written is read back while every other byte reads as before.
-/
namespace Sys2Proof.Machine

theorem Memory.wfFrom_cons (lo a : Nat) (v : Byte) (rest : List Host.Cell) :
    Memory.wfFrom lo ((a, v) :: rest) = true ↔
      (lo ≤ a ∧ a < Config.memorySize ∧ v ≠ Config.unwritten) ∧ Memory.wfFrom (a + 1) rest = true := by
  simp [Memory.wfFrom]

/-- A memory whose addresses start at `hi` also starts at any lower address. -/
theorem Memory.wfFrom_mono {lo hi : Nat} (h : lo ≤ hi) (m : List Host.Cell) (w : Memory.wfFrom hi m = true) :
    Memory.wfFrom lo m = true := by
  cases m with
  | nil => rfl
  | cons c rest =>
    obtain ⟨a, v⟩ := c
    rw [Memory.wfFrom_cons] at w ⊢
    exact ⟨⟨by omega, w.1.2⟩, w.2⟩

/-- An address below the first listed one reads as unwritten. -/
theorem Memory.read_below {lo a : Nat} (h : a < lo) (m : List Host.Cell) (w : Memory.wfFrom lo m = true) :
    Memory.read m a = Config.unwritten := by
  cases m with
  | nil => rfl
  | cons c rest =>
    obtain ⟨b, v⟩ := c
    rw [Memory.wfFrom_cons] at w
    have h1 : a ≠ b := by omega
    have h2 : a < b := by omega
    simp [Memory.read, h1, h2]

/-- A write keeps the canonical form from a bound below both. -/
theorem Memory.wfFrom_write (m : List Host.Cell) (lo a : Nat) (v : Byte) (hlo : lo ≤ a) (ha : a < Config.memorySize)
    (w : Memory.wfFrom lo m = true) : Memory.wfFrom lo (Memory.write m a v) = true := by
  induction m generalizing lo with
  | nil =>
    unfold Memory.write
    split
    · rfl
    · rename_i hv
      exact (Memory.wfFrom_cons _ _ _ _).2 ⟨⟨hlo, ha, hv⟩, rfl⟩
  | cons c rest ih =>
    obtain ⟨b, x⟩ := c
    have w' := (Memory.wfFrom_cons _ _ _ _).1 w
    unfold Memory.write
    split
    · rename_i hab
      subst hab
      split
      · exact Memory.wfFrom_mono (by omega) rest w'.2
      · rename_i hv
        exact (Memory.wfFrom_cons _ _ _ _).2 ⟨⟨hlo, ha, hv⟩, w'.2⟩
    · split
      · rename_i hab hlt
        split
        · exact w
        · rename_i hv
          exact (Memory.wfFrom_cons _ _ _ _).2
            ⟨⟨hlo, ha, hv⟩, (Memory.wfFrom_cons _ _ _ _).2 ⟨⟨by omega, w'.1.2⟩, w'.2⟩⟩
      · rename_i hab hlt
        exact (Memory.wfFrom_cons _ _ _ _).2 ⟨w'.1, ih (b + 1) (by omega) w'.2⟩

/-- A write inside the frame memory keeps the canonical form. -/
theorem Memory.wf_write (m : List Host.Cell) (a : Nat) (v : Byte) (ha : a < Config.memorySize) (w : Memory.wf m = true) :
    Memory.wf (Memory.write m a v) = true :=
  Memory.wfFrom_write m 0 a v (Nat.zero_le a) ha w

/-- A run of writes inside the frame memory keeps the canonical form. -/
theorem Memory.wf_writeList (bytes : List Byte) (m : List Host.Cell) (a : Nat)
    (ha : a + bytes.length ≤ Config.memorySize) (w : Memory.wf m = true) :
    Memory.wf (Memory.writeList m a bytes) = true := by
  induction bytes generalizing m a with
  | nil => exact w
  | cons v rest ih =>
    simp only [List.length_cons] at ha
    exact ih _ _ (by omega) (Memory.wf_write m a v (by omega) w)

/-- A byte written is read back. -/
theorem Memory.read_write_same (m : List Host.Cell) (lo a : Nat) (v : Byte) (w : Memory.wfFrom lo m = true) :
    Memory.read (Memory.write m a v) a = v := by
  induction m generalizing lo with
  | nil =>
    unfold Memory.write
    split
    · rename_i hv
      simp [Memory.read, hv]
    · simp [Memory.read]
  | cons c rest ih =>
    obtain ⟨b, x⟩ := c
    have w' := (Memory.wfFrom_cons _ _ _ _).1 w
    unfold Memory.write
    split
    · rename_i hab
      subst hab
      split
      · rename_i hv
        rw [Memory.read_below (Nat.lt_succ_self _) rest w'.2, hv]
      · simp [Memory.read]
    · rename_i hab
      split
      · rename_i hlt
        split
        · rename_i hv
          simp [Memory.read, hab, hlt, hv]
        · simp [Memory.read]
      · rename_i hlt
        simp only [Memory.read, if_neg hab, if_neg hlt]
        exact ih (b + 1) w'.2

/-- A byte not written reads as before. -/
theorem Memory.read_write_other (m : List Host.Cell) (lo a c : Nat) (v : Byte) (hc : c ≠ a)
    (w : Memory.wfFrom lo m = true) : Memory.read (Memory.write m a v) c = Memory.read m c := by
  induction m generalizing lo with
  | nil =>
    unfold Memory.write
    split
    · rfl
    · simp [Memory.read, hc]
  | cons d rest ih =>
    obtain ⟨b, x⟩ := d
    have w' := (Memory.wfFrom_cons _ _ _ _).1 w
    unfold Memory.write
    split
    · rename_i hab
      subst hab
      split
      · by_cases hlt : c < a
        · rw [Memory.read_below (by omega) rest w'.2]
          simp [Memory.read, hc, hlt]
        · simp [Memory.read, hc, hlt]
      · simp [Memory.read, hc]
    · rename_i hab
      split
      · rename_i hlt
        split
        · rfl
        · by_cases hca : c < a
          · have h1 : c ≠ b := by omega
            have h2 : c < b := by omega
            simp [Memory.read, hc, hca, h1, h2]
          · simp [Memory.read, hc, hca]
      · rename_i hlt
        simp only [Memory.read]
        split
        · rfl
        · split
          · rfl
          · exact ih (b + 1) w'.2

/-- Outside a run of writes every byte reads as before. -/
theorem Memory.read_writeList_outside (bytes : List Byte) (m : List Host.Cell) (a c : Nat)
    (ha : a + bytes.length ≤ Config.memorySize) (hc : c < a ∨ a + bytes.length ≤ c) (w : Memory.wf m = true) :
    Memory.read (Memory.writeList m a bytes) c = Memory.read m c := by
  induction bytes generalizing m a with
  | nil => rfl
  | cons v rest ih =>
    simp only [List.length_cons] at ha hc
    have h1 : Memory.read (Memory.writeList (Memory.write m a v) (a + 1) rest) c = Memory.read (Memory.write m a v) c :=
      ih _ _ (by omega) (by omega) (Memory.wf_write m a v (by omega) w)
    exact h1.trans (Memory.read_write_other m 0 a c v (by omega) w)

/-- Inside a run of writes each byte written is read back. -/
theorem Memory.read_writeList_inside (bytes : List Byte) (m : List Host.Cell) (a i : Nat)
    (ha : a + bytes.length ≤ Config.memorySize) (hi : i < bytes.length) (w : Memory.wf m = true) :
    Memory.read (Memory.writeList m a bytes) (a + i) = bytes[i] := by
  induction bytes generalizing m a i with
  | nil => simp at hi
  | cons v rest ih =>
    simp only [List.length_cons] at ha hi
    have w' := Memory.wf_write m a v (by omega) w
    cases i with
    | zero =>
      have h1 := Memory.read_writeList_outside rest (Memory.write m a v) (a + 1) a (by omega) (by omega) w'
      exact h1.trans (Memory.read_write_same m 0 a v w)
    | succ j =>
      have h1 := ih (Memory.write m a v) (a + 1) j (by omega) (by omega) w'
      simpa [Nat.add_assoc, Nat.add_comm 1 j, Memory.writeList] using h1

/-- Where none of the addresses is missing, all of them exist (R1). -/
theorem firstMissing_none {first count : Nat} (h : firstMissing first count = none) :
    first + count ≤ Config.memorySize := by
  unfold firstMissing at h
  split at h
  · simp at h
  · rename_i hn
    exact Nat.le_of_not_lt hn

/-- Addresses below the top of the frame memory are not missing (R1). -/
theorem firstMissing_of_le {first count : Nat} (h : first + count ≤ Config.memorySize) : firstMissing first count = none := by
  unfold firstMissing
  exact if_neg (Nat.not_lt.2 h)

/-- A line of a buffer whose bytes all exist lies inside the frame memory (R1). -/
theorem lineMissing_none {b : BufId} {y count : Nat} (h : lineMissing b y count = none) :
    Memory.address b y 0 + count ≤ Config.memorySize :=
  firstMissing_none h

/-- Every line of every buffer lies inside the frame memory (R1). -/
theorem lineMissing_line (b : BufId) (y count : Nat) (hy : y < 2880) (hc : count ≤ 7680) : lineMissing b y count = none := by
  have hb := b.isLt
  apply firstMissing_of_le
  simp only [Memory.address, Config.memorySize, Config.bufferSize, Config.lineSize]
  omega

/-- Writing a line: the write either faults for an address outside the frame memory, or stores the line in the write
buffer and takes the intake record given, and keeps the canonical form. -/
theorem State.writeLine_next {s t : State} {y : Nat} {bytes : List Byte} {after : Intake}
    (h : s.writeLine y bytes after = .next t) :
    t.intake = after ∧ (Memory.wf s.mem = true → Memory.wf t.mem = true) := by
  unfold State.writeLine at h
  split at h
  · cases h
    simp
  · split at h
    · simp at h
    · rename_i b _ hm
      cases h
      exact ⟨rfl, fun w => Memory.wf_writeList _ _ _ (lineMissing_none hm) w⟩

end Sys2Proof.Machine
end

