-- ==== Sys2Proof/Safety.lean ====
section
/-! DEFINITION. Safety: the properties of State that the spec says the part keeps, stated once for the certificates.
-/
namespace Sys2Proof.Machine

/-- The frame memory is in canonical form (R1; log 2). -/
abbrev State.memoryOk (s : State) : Prop := Memory.wf s.mem = true

/-- A port's figures: at most 16 notices; the taking order lists the non-FREE slots, each once; an absent port holds
nothing (R179, R184). -/
abbrev PortRec.ok (r : PortRec) : Prop :=
  r.notices.length ≤ 16 ∧ r.order.Nodup ∧ (∀ k : Fin 4, k ∈ r.order ↔ (r.slots[k]).isFree = false) ∧
    (r.present = false → r.notices = [] ∧ r.order = [])

/-- Every port's figures (R179). -/
abbrev State.portsOk (s : State) : Prop := s.ports.panel.ok ∧ s.ports.desk.ok ∧ s.ports.recorder.ok

/-- The tenancy record: the holder is not in the wait set, the wait set is in rank order with each port at most once, and
everything is clear without a holder (R102, R107). -/
abbrev State.tenancyOk (s : State) : Prop :=
  (s.tenancy.waiters.map fun w => w.port).Sublist (rankList s.params.rankOrder) ∧
    (∀ w ∈ s.tenancy.waiters, s.tenancy.holder ≠ some w.port) ∧
    (s.tenancy.holder = none →
      s.tenancy.waiters = [] ∧ s.tenancy.holdFast = false ∧ s.tenancy.singleUse = false ∧ s.tenancy.idle = 0) ∧
    s.tenancy.idle ≤ 4294967295

/-- The sequence numbers run on without a break up to the next one (R152). -/
abbrev Timeline.consecutive (t : Timeline) : Prop :=
  ∀ i : Fin t.entries.length, t.entries[i].seq + BitVec.ofNat 16 (t.entries.length - i.val) = t.nextSeq

/-- The timeline: at most 256 entries with consecutive numbers, timestamps that do not fall and do not pass the clock, the
sealed entries at the front, and nothing in IDLE (R144, R152, R156). -/
abbrev State.timelineOk (s : State) : Prop :=
  s.timeline.entries.length ≤ 256 ∧ s.timeline.gap ≤ 65535 ∧ s.timeline.consecutive ∧
    s.timeline.entries.Pairwise (fun a b => a.time ≤ b.time) ∧ (∀ e ∈ s.timeline.entries, e.time ≤ s.lesson.time) ∧
    s.timeline.entries.Pairwise (fun a b => b.isSealed = true → a.isSealed = true) ∧
    (s.lesson.state = .idle → s.timeline.entries = [])

/-- The lesson record within its ranges (R143). -/
abbrev State.clockOk (s : State) : Prop :=
  s.lesson.number ≤ 65535 ∧ s.lesson.hundredths ≤ 99 ∧ s.lesson.seconds ≤ 59 ∧ s.lesson.minutes ≤ 59 ∧
    s.lesson.hours ≤ 23 ∧ s.lesson.ticks ≤ 9 ∧ s.lesson.timed ≤ 599

/-- The parameters within their ranges, MOTION_LOW below MOTION_HIGH (R51, R187). -/
abbrev State.paramsOk (s : State) : Prop :=
  (5 ≤ s.params.stallLimit ∧ s.params.stallLimit ≤ 240) ∧ s.params.clarityGain ≤ 63 ∧ s.params.clarityCore ≤ 31 ∧
    (16 ≤ s.params.exposureTarget ∧ s.params.exposureTarget ≤ 240) ∧ s.params.exposureDeadband ≤ 32 ∧
    (1 ≤ s.params.motionHigh ∧ s.params.motionHigh ≤ 255) ∧ s.params.motionLow < s.params.motionHigh ∧
    (1 ≤ s.params.settleFrames ∧ s.params.settleFrames ≤ 30) ∧ s.params.rankOrder ≤ 5 ∧ s.params.yieldDelay ≤ 60000 ∧
    s.params.holdFastLimit ≤ 3600 ∧ s.params.duplicateLimit ≤ 64 ∧
    (s.params.timedInterval = 0 ∨ (5 ≤ s.params.timedInterval ∧ s.params.timedInterval ≤ 600)) ∧
    (10 ≤ s.params.exportTimeout ∧ s.params.exportTimeout ≤ 1000) ∧
    (1 ≤ s.params.readyCount ∧ s.params.readyCount ≤ 256) ∧ (100 ≤ s.params.readyAge ∧ s.params.readyAge ≤ 60000)

/-- The record is STORED (R120). -/
def PageRec.isStored : PageRec → Bool
  | .stored _ _ => true
  | _ => false

/-- The buffer of a record in STORED or DISCARDING (R120). -/
def PageRec.buffer? : PageRec → Option BufId
  | .stored _ d => some d.buffer
  | .discarding _ d _ => some d.buffer
  | _ => none

/-- The page table: the serials of the non-EMPTY records are pairwise different and lie in 1 to 65535, and the store list
holds the STORED slots, each once (R120–R123). -/
abbrev State.storeOk (s : State) : Prop :=
  s.store.serials.Nodup ∧ (∀ n ∈ s.store.serials, 1 ≤ n ∧ n ≤ 65535) ∧ s.store.list.Nodup ∧
    (∀ k : SlotId, k ∈ s.store.list ↔ (s.store.page k).isStored = true) ∧ s.store.lastSerial ≤ 65535

/-- The roles: the ring lists the RING buffers, each once, 2 or 3 of them, 3 while a buffer is FREE; the HELD buffer is the
one the view unit records, and there is one while the staged view is frozen; the PAGE buffers are those of the records in
STORED or DISCARDING, one each (R3, R5, R6, R58). -/
abbrev State.rolesOk (s : State) : Prop :=
  s.pool.ring.Nodup ∧ (∀ b : BufId, b ∈ s.pool.ring ↔ (s.pool.bufRec b).role = .ring) ∧
    (2 ≤ s.pool.ring.length ∧ s.pool.ring.length ≤ 3) ∧
    ((∃ b : BufId, (s.pool.bufRec b).role = .free) → s.pool.ring.length = 3) ∧
    (∀ b : BufId, (s.pool.bufRec b).role = .held ↔ s.view.held = some b) ∧
    (s.view.staged.frozen = s.view.held.isSome) ∧
    (∀ b : BufId, (s.pool.bufRec b).role = .page ↔ ∃ k : SlotId, (s.store.page k).buffer? = some b) ∧
    (∀ j k : SlotId, j ≠ k → (s.store.page j).buffer? ≠ none → (s.store.page j).buffer? ≠ (s.store.page k).buffer?)

/-- 1 when the reader that may hold a pin holds one on buffer `b`. -/
def pinOn (b : BufId) (pin : Option BufId) : Nat := if pin = some b then 1 else 0

/-- The buffer a page channel pins in ACTIVE or STOPPING (R168). -/
def Chan.pin? (c : Chan) : Option BufId := c.pinning?.map fun d => d.buffer

/-- Every pin count is the number of feed areas that pinned the buffer and page channels that export it (R12). -/
abbrev State.pinsOk (s : State) : Prop :=
  ∀ b : BufId, (s.pool.bufRec b).pins =
    pinOn b s.feed.first.pin + pinOn b s.feed.second.pin + pinOn b s.link.ex0.pin? + pinOn b s.link.ex1.pin?

/-- While a frame is received its write buffer is a RING buffer that is not complete, and there is a write buffer only then
(R7, R20). -/
abbrev State.writeBufferOk (s : State) : Prop :=
  (s.intake.state = .receiving ↔ s.intake.writeBuffer.isSome = true) ∧
    ∀ b : BufId, s.intake.writeBuffer = some b →
      (s.pool.bufRec b).role = .ring ∧ (s.pool.bufRec b).complete = none

/-- The fields of a view record that a commit computes with are in range (R57). -/
abbrev ViewRec.inRange (v : ViewRec) : Prop :=
  (100 ≤ v.target ∧ v.target ≤ 1600) ∧ v.glide ≤ 100 ∧ v.cx ≤ 3839 ∧ v.cy ≤ 2879

/-- The view unit's zoom and centres are in range, and the camera window lies inside the frame with its origin and size at
multiples of 4 (R57, R71, R74). -/
abbrev State.viewOk (s : State) : Prop :=
  s.view.staged.inRange ∧ s.view.active.inRange ∧ (100 ≤ s.view.zoom ∧ s.view.zoom ≤ 1600) ∧
    (0 < s.view.camera.w ∧ s.view.camera.x0 + s.view.camera.w ≤ 3840) ∧
    (0 < s.view.camera.h ∧ s.view.camera.y0 + s.view.camera.h ≤ 2880) ∧
    (4 ∣ s.view.camera.x0 ∧ 4 ∣ s.view.camera.y0 ∧ 4 ∣ s.view.camera.w ∧ 4 ∣ s.view.camera.h)

/-- A view record names a STORED page while its source is PAGE or SPLIT, and no page while it is CAMERA (R57, R59). -/
abbrev ViewRec.namesStored (v : ViewRec) (st : Store) : Prop :=
  (v.source = .camera ↔ v.page = none) ∧ ∀ r ∈ v.page, (st.storedWith r.slot r.serial).isSome = true

/-- Both view records name what they show (R59). -/
abbrev State.namesOk (s : State) : Prop := s.view.staged.namesStored s.store ∧ s.view.active.namesStored s.store

/-- The light control record in its ranges (R38, R40, R43–R48). -/
abbrev State.lightOk (s : State) : Prop :=
  s.light.e ≤ 255 ∧ s.light.manual ≤ 255 ∧ s.light.controlLine ≤ 255 ∧ s.light.setLevel ≤ 10 ∧ s.light.applied ≤ 10 ∧
    s.light.darkRun ≤ 29 ∧ s.light.brightRun ≤ 29 ∧ (1250 ≤ s.light.period ∧ s.light.period ≤ 12500) ∧
    s.light.onTime ≤ s.light.period

/-- The feed record: DETACHED exactly while the sense line is absent, and no area shows a picture outside RUNNING (R84,
R85, R93, R100). -/
abbrev State.feedOk (s : State) : Prop :=
  (s.feed.state = .detached ↔ s.feed.sense = false) ∧ s.feed.starting ≤ 4 ∧ s.feed.faults ≤ 65535 ∧
    (s.feed.state ≠ .running → s.feed.first.showing = .blackState ∧ s.feed.second.showing = .blackState)

end Sys2Proof.Machine
end

