-- ==== Sys2Proof/Certificates/Slice0/Obligations.lean ====
section
/-! DEFINITION. Obligations: the statements for the provers, one `Obligations.<Name>` each, with the words they share.
A statement about a command gives the whole next state as a record update of the state before, so that what the update
does not name is unchanged. Its last part, `reply`, is what `ReplyIsPlacedAndTheNextRequestHandedOn` states.
-/

namespace Sys2Proof.Statements

open Sys2Proof.Machine

/-- Port `p` hands on request `q` of slot `k`, which has this code and these argument bytes (R181). -/
abbrev Hands (s : State) (p : Port) (k : Fin 4) (q : Request) (code : Byte) (args : List Byte) : Prop :=
  (s.port p).current = some (k, q) ∧ q.code = code ∧ q.args = args

/-- Port `p` holds the view, and no waiter takes it after this request by the single-use step (R104, R110). -/
abbrev Holding (s : State) (p : Port) : Prop :=
  s.tenancy.holder = some p ∧ (s.tenancy.singleUse = false ∨ s.tenancy.waiters = [])

/-- `x` is the first entry of `l` that has property `P`. -/
def FirstWith {α : Type} (P : α → Prop) (l : List α) (x : α) : Prop :=
  ∃ before after, l = before ++ x :: after ∧ P x ∧ ∀ y ∈ before, ¬ P y

/-- Commands run one after the other, as long as each answers a next state. -/
def runAll : List Instr → State → Host.Outcome State Fault Refusal
  | [], s => .next s
  | c :: rest, s =>
    match exec c s with
    | .next t => runAll rest t
    | .fault f => .fault f
    | .refused r => .refused r

/-- The state after effects 1 to 3 of a handover to the tenancy record `r` with this cause (R115). -/
def afterHandover (s : State) (r : Tenancy) (cause : Nat) : State :=
  { s with
    tenancy := { r with idle := 0 }
    view := { s.view with staged := { s.view.staged with target := s.view.zoom } }
    timeline := s.timeline.offer s.lesson.state s.lesson.time
      { kind := .tenantChanged, port := r.holder, page := none, view := none
        extra := 256 * portCode s.tenancy.holder + cause } }

/-- The record of a view nobody holds (R102). -/
def nobody : Tenancy := { holder := none, holdFast := false, singleUse := false, idle := 0, waiters := [] }

/-- What a drop of port `p`'s presence line comes to at the port, the tenancy unit and the blocks a handover reaches, without the
halt of the export link (R115, R116, R118, R184). What becomes of a FETCH or a WRITE in progress is the model's reading (log 11). -/
def PortDropped (s : State) (p : Port) (u : State) : Prop :=
  ∃ r : PortRec,
    r = { s.port p with
      present := false, slots := Vector.replicate 4 .free, order := [], notices := [], lost := false, mask := 31
      fetch := (s.port p).fetch.map fun f => { f with live := false, taken := false }, write := none, answers := [] } ∧
    (s.tenancy.holder ≠ some p → u = { s.setPort p r with tenancy := { s.tenancy with
      waiters := s.tenancy.waiters.filter fun w => decide (w.port ≠ p) } }) ∧
    (s.tenancy.holder = some p → s.tenancy.waiters = [] → u = afterHandover (s.setPort p r) nobody 7) ∧
    (∀ (w : Waiter) (rest : List Waiter) (given : State), s.tenancy.holder = some p → s.tenancy.waiters = w :: rest →
      given = (afterHandover (s.setPort p r) { holder := some w.port, holdFast := w.holdFast, singleUse := w.singleUse, idle := 0,
                                               waiters := rest } 7).post w.port
        (.viewGranted (some p) w.holdFast w.singleUse .portReset) →
      u = given.settle ∧ (s.tenancyOk → 0 < s.params.yieldDelay → u = given))

/-- The results of a lesson request: lesson state, number and time (section 8.3). -/
def lessonReply (l : Lesson) : List Byte := [byte1 l.state.code] ++ be16 l.number ++ be32 l.time

/-- The state after a change of the lesson record to `l`: LESSON_STATE to every port, and the lesson clock's own entry of this
kind, with this extra field (R146, R149). -/
def lessonChanged (s : State) (l : Lesson) (cause : LessonCause) (p : Port) (kind : EntryKind) (extra : Nat) : State :=
  let entry : Offer := { kind := kind, port := some p, page := none, view := none, extra := extra }
  ({ s with lesson := l, timeline := s.timeline.append l.time entry } : State).postAll
    (.lessonState l.state s.lesson.state l.number l.time cause) none

/-- What a block answers to PART_READ as it stands: its fields of the table of R189. -/
def summaryOf (s : State) : SummaryBlock → List Byte
  | .intake => [byte1 s.intake.state.code, flag1 s.intake.stalled]
  | .feed => [byte1 s.feed.state.code, byte1 s.feed.mode.code]
  | .tenancy => [byte1 (portCode s.tenancy.holder)]
  | .lesson => [byte1 s.lesson.state.code] ++ be16 s.lesson.number ++ be32 s.lesson.time
  | .store => [2, 1, 3].map fun code => byte1 ((List.finRange 20).countP fun j => decide ((s.store.page j).stateCode = code))
  | .pool => [byte1 s.pool.ring.length, byte1 ((List.finRange 24).countP fun b => decide ((s.pool.bufRec b).role = .free))]
  | .link => [byte1 s.link.state.code]

/-- What a block has answered to the PART_READ in progress at a port, and `now` where it has not answered (R189; log 27). -/
def answeredOr (r : PortRec) (b : SummaryBlock) (now : List Byte) : List Byte :=
  match r.answers.find? fun a => decide (a.block = b) with
  | some a => a.bytes
  | none => now

end Sys2Proof.Statements

section
open Sys2Proof Sys2Proof.Machine Sys2Proof.Statements

/-! ### The part as a whole -/

/-- One step takes the command at the front of the queue and runs it with the queue's rest (log 18: the queue is the
model's). -/
def Obligations.StepRunsTheFrontCommand : Prop :=
  ∀ (c : Instr) (rest : List Instr) (s : State),
    step { s with pending := c :: rest } = exec c { s with pending := rest }

/-- The events of the lamp pulse train, and the microsecond that a step with an empty queue lets pass (R36, R48; the ways
in which the timer moves are the model's, log 3). -/
def Obligations.TimePassesInTheLampTrain : Prop :=
  (∀ s : State, s.pending = [] → ∃ l : Light,
    step s = .next { s with timer := s.timer + 1, light := l } ∧
    l = { s.light with trainTime := l.trainTime, pulse := l.pulse, lampHigh := l.lampHigh } ∧
    l.trainTime = s.light.trainTime + 1 ∧
    ((s.light.pulse + 1) * s.light.period ≤ s.light.trainTime + 1 →
      l.pulse = s.light.pulse + 1 ∧ l.lampHigh = decide (0 < s.light.onTime)) ∧
    (s.light.trainTime + 1 < (s.light.pulse + 1) * s.light.period →
      l.pulse = s.light.pulse ∧
      l.lampHigh = (s.light.lampHigh && decide (s.light.trainTime + 1 < s.light.pulse * s.light.period + s.light.onTime))))
  ∧ (∀ s : State, s.light.trainTime ≤ (s.light.pulse + 1) * s.light.period →
    exec .lampPulseStart s = .next { s with
      timer := s.timer + BitVec.ofNat 32 ((s.light.pulse + 1) * s.light.period - s.light.trainTime)
      light := { s.light with
        pulse := s.light.pulse + 1, trainTime := (s.light.pulse + 1) * s.light.period
        lampHigh := decide (0 < s.light.onTime) } })
  ∧ (∀ s : State, s.light.lampHigh = true → s.light.onTime < s.light.period →
    s.light.trainTime ≤ s.light.pulse * s.light.period + s.light.onTime →
    exec .lampOnTimeEnd s = .next { s with
      timer := s.timer + BitVec.ofNat 32 (s.light.pulse * s.light.period + s.light.onTime - s.light.trainTime)
      light := { s.light with trainTime := s.light.pulse * s.light.period + s.light.onTime, lampHigh := false } })

/-- A part reset: every block at its reset state with the values the spec gives, the frame memory kept (R1, R16, R36, R55, R56,
R81, R101, R119, R142, R160, R178, R187, R190). The levels of the input lines are the command's operands and the waiting commands
are kept (log 23); the empty queues of reports, the lines held for the filter and the fields of the transfers and
of a PART_READ in progress are the model's own (logs 9, 25, 10, 20 and 27). -/
def Obligations.PartResetReturnsEveryBlock : Prop :=
  ∀ (s : State) (sense panel desk recorder : Bool), ∃ t : State,
    exec (.partReset sense panel desk recorder) s = .next t ∧
    t.mem = s.mem ∧ t.pending = s.pending ∧ t.timer = 0 ∧
    t.pool.ring = [0, 1, 2] ∧
    (∀ b : BufId, t.pool.bufRec b = { role := if b.val ≤ 2 then .ring else .free, pins := 0, complete := none }) ∧
    (t.intake.state = .seeking ∧ t.intake.stalled = false ∧ t.intake.startCount = 0 ∧ t.intake.lastStart = none ∧
      t.intake.lastInterval = none ∧ t.intake.profile = .picture ∧ t.intake.gain = 16 ∧ t.intake.core = 2 ∧
      t.intake.setExposure = 128 ∧ t.intake.setLamp = 6 ∧ t.intake.writeBuffer = none ∧ t.intake.lineCount = 0 ∧
      t.intake.pixelCount = 0 ∧ t.intake.lineOpen = false ∧ t.intake.frameEnd = false ∧
      t.intake.sinceCompletion = 0 ∧ t.intake.skipped = 0 ∧ t.intake.malformed = 0 ∧
      t.intake.sums = List.replicate 3072 0 ∧ t.intake.lastCompleted = 0 ∧ t.intake.completed = false ∧
      t.intake.above = [] ∧ t.intake.held = [] ∧ t.intake.incoming = []) ∧
    (t.light.mode = .auto ∧ t.light.e = 128 ∧ t.light.manual = 128 ∧ t.light.stalled = false ∧ t.light.last = none ∧
      t.light.setLevel = 6 ∧ t.light.applied = 6 ∧ t.light.auto = true ∧ t.light.darkRun = 0 ∧ t.light.brightRun = 0 ∧
      t.light.period = 2083 ∧ t.light.onTime = 1249 ∧ t.light.controlLine = 128 ∧ t.light.lampHigh = true ∧
      t.light.pulse = 0 ∧ t.light.trainTime = 0 ∧ t.light.reports = []) ∧
    (t.motion.previous = none ∧ t.motion.score = none ∧ t.motion.detector = .watching ∧ t.motion.settle = 0 ∧
      t.motion.reports = []) ∧
    t.view.staged = { source := .camera, frozen := false, page := none, target := 100, glide := 0, cx := 1920, cy := 1440,
                      blank := false, author := none } ∧
    t.view.active = t.view.staged ∧ t.view.zoom = 100 ∧ t.view.held = none ∧ t.view.moved = false ∧
    t.view.pageArea = none ∧ t.view.camera = { x0 := 0, y0 := 240, w := 3840, h := 2400, d := 2, step := 98304 } ∧
    (t.feed.state = (if sense then .starting else .detached) ∧ t.feed.sense = sense ∧ t.feed.mode = .mode1 ∧
      t.feed.starting = 0 ∧ t.feed.frames = 0 ∧ t.feed.faults = 0 ∧
      (∀ a ∈ [t.feed.first, t.feed.second], a.pin = none ∧ a.showing = .blackState ∧ a.fault = none)) ∧
    t.tenancy = { holder := none, holdFast := false, singleUse := false, idle := 0, waiters := [] } ∧
    (∀ k : SlotId, t.store.page k = .empty) ∧ t.store.list = [] ∧ t.store.lastSerial = 0 ∧ t.store.reports = [] ∧
    t.lesson = { state := .idle, number := 0, hundredths := 0, seconds := 0, minutes := 0, hours := 0, ticks := 0,
                 timed := 0 } ∧
    t.timeline = { entries := [], gap := 0, nextSeq := 0, ms := 0 } ∧
    (t.link.state = .ready ∧ t.link.time = 0 ∧ t.link.lastServed = none ∧ t.link.halts = 0 ∧ t.link.ex0 = .idle ∧
      t.link.ex1 = .idle ∧ t.link.transfer = .closed ∧ t.link.owed = [] ∧ t.link.out = []) ∧
    t.params = { stallLimit := 30, clarityGain := 24, clarityCore := 4, exposureTarget := 128, exposureDeadband := 6,
                 motionHigh := 24, motionLow := 6, settleFrames := 8, rankOrder := 0, yieldDelay := 5000,
                 holdFastLimit := 120, pageTurnCapture := false, duplicateLimit := 4, timedInterval := 0,
                 exportTimeout := 100, readyCount := 32, readyAge := 2000 } ∧
    (∀ p : Port, (∀ k : Fin 4, (t.port p).slots[k] = .free) ∧ (t.port p).order = [] ∧ (t.port p).notices = [] ∧
      (t.port p).lost = false ∧ (t.port p).mask = 31 ∧ (t.port p).attention = false ∧ (t.port p).fetch = none ∧
      (t.port p).write = none ∧ (t.port p).driven = [] ∧ (t.port p).answers = []) ∧
    (t.port .panel).present = panel ∧ (t.port .desk).present = desk ∧ (t.port .recorder).present = recorder

/-- The invariants below hold in the state after reset (R16, R36, R55, R56, R81, R101, R119, R142, R160, R178, R187, R190; the
levels of the input lines and the memory of State.reset are the model's, logs 1 and 2). -/
def Obligations.ResetMeetsTheInvariants : Prop :=
  State.reset.memoryOk ∧ State.reset.portsOk ∧ State.reset.tenancyOk ∧ State.reset.timelineOk ∧ State.reset.clockOk ∧
    State.reset.paramsOk ∧ State.reset.storeOk ∧ State.reset.rolesOk ∧ State.reset.writeBufferOk ∧ State.reset.pinsOk ∧
    State.reset.viewOk ∧ State.reset.namesOk ∧ State.reset.lightOk ∧ State.reset.feedOk

/-! ### Invariants that every step keeps -/

/-- The frame memory keeps its canonical form, and no step writes outside it (R1). -/
def Obligations.FrameMemoryStaysCanonical : Prop :=
  ∀ s t : State, s.memoryOk → step s = .next t → t.memoryOk

/-- At each port waiting notices stay at most 16, and the taking order stays the list of the non-FREE slots (R179). -/
def Obligations.PortRecordsStayBounded : Prop :=
  ∀ s t : State, s.portsOk → step s = .next t → t.portsOk

/-- At most one port holds the view, it never waits, and the wait set stays in rank order and empty without a holder
(R102, R107). -/
def Obligations.TenancyRecordStaysConsistent : Prop :=
  ∀ s t : State, s.tenancyOk → step s = .next t → t.tenancyOk

/-- The timeline holds at most 256 entries with consecutive numbers, timestamps that do not fall, and nothing in IDLE;
the lesson clock and the parameters in range rule out a clock that falls (R144, R152). -/
def Obligations.TimelineStaysOrdered : Prop :=
  ∀ s t : State, s.timelineOk → s.clockOk → s.paramsOk → step s = .next t → t.timelineOk

/-- The lesson clock and every parameter stay within their ranges (R143, R187). -/
def Obligations.ClockAndParametersStayInRange : Prop :=
  ∀ s t : State, s.clockOk → s.paramsOk → step s = .next t → t.clockOk ∧ t.paramsOk

/-- The serials of the pages stay pairwise different and in range, and the store list stays the list of the STORED slots
(R121–R123). -/
def Obligations.PageTableStaysConsistent : Prop :=
  ∀ s t : State, s.storeOk → step s = .next t → t.storeOk

/-- Every buffer keeps one role: the ring list, the HELD buffer and the PAGE buffers agree with the roles, the ring keeps 2
or 3 buffers, and the write buffer stays an incomplete RING buffer (R3, R5, R6, R7, R58). -/
def Obligations.BufferRolesStayConsistent : Prop :=
  ∀ s t : State, s.rolesOk → s.writeBufferOk → step s = .next t → t.rolesOk ∧ t.writeBufferOk

/-- Every pin count stays the number of feed areas and page channels that hold the buffer (R12). -/
def Obligations.PinCountsStayTheReaders : Prop :=
  ∀ s t : State, s.pinsOk → step s = .next t → t.pinsOk

/-- The zoom, the centre and the glide step stay in range and the camera window inside the frame; a view record whose source
is PAGE or SPLIT keeps naming a STORED page; the light control record and the feed record stay in range, and the feed is
DETACHED exactly while the sense line is absent (R38, R46–R48, R57, R59, R74, R84, R85). -/
def Obligations.ViewLightAndFeedStayInRange : Prop :=
  (∀ s t : State, s.viewOk → step s = .next t → t.viewOk) ∧
  (∀ s t : State, s.namesOk → step s = .next t → t.namesOk) ∧
  (∀ s t : State, s.lightOk → s.feedOk → step s = .next t → t.lightOk ∧ t.feedOk)
/-! ### Control ports -/

/-- A WRITE transaction: its acceptance byte and its effect, case by case, and the same transaction event by event: the request is
taken when its last argument byte has been received, and the acceptance byte is driven when it is clocked, whatever came between
(R180, R191). What one command covers, and that a transaction that opens ends one in progress, is the model's (log 10). -/
def Obligations.WriteIsTakenOrRefused : Prop :=
  (∀ (s : State) (p : Port) (tag code n : Byte) (args more : List Byte), args.length = n.toNat →
      (∀ (k : Fin 4), (s.port p).present = true → n.toNat ≤ 28 →
        (s.port p).slots[k] = .free → (∀ j : Fin 4, j < k → (s.port p).slots[j] ≠ .free) →
        exec (.requestWrite p (.whole (1 :: tag :: code :: n :: (args ++ more)))) s = .next (s.setPort p { s.port p with
          slots := (s.port p).slots.set k (.waiting { tag := tag, code := code, args := args })
          order := (s.port p).order ++ [k]
          fetch := none, write := none, driven := ((0x01 : Byte) :: List.replicate (more.length - 1) 0).take more.length })) ∧
      ((s.port p).present = true → 28 < n.toNat →
        exec (.requestWrite p (.whole (1 :: tag :: code :: n :: (args ++ more)))) s = .next (s.setPort p { s.port p with
          fetch := none, write := none, driven := ((0x03 : Byte) :: List.replicate (more.length - 1) 0).take more.length })) ∧
      ((s.port p).present = false ∨ (n.toNat ≤ 28 ∧ ∀ k : Fin 4, (s.port p).slots[k] ≠ .free) →
        exec (.requestWrite p (.whole (1 :: tag :: code :: n :: (args ++ more)))) s = .next (s.setPort p { s.port p with
          fetch := none, write := none, driven := ((0x0D : Byte) :: List.replicate (more.length - 1) 0).take more.length })) ∧
      (∀ short : List Byte, short <+: tag :: code :: n :: args → short.length < 3 + n.toNat →
        exec (.requestWrite p (.whole (1 :: short))) s = .next (s.setPort p { s.port p with fetch := none, write := none, driven := [] })) ∧
      (∀ (first : Byte), first ≠ 1 → first ≠ 2 →
        exec (.requestWrite p (.whole (first :: more))) s = .next (s.setPort p { s.port p with
          fetch := none, write := none, driven := List.replicate more.length 0 }))) ∧
  (∀ (s : State) (p : Port) (before after : List Byte),
    runAll [.requestWrite p .select, .requestWrite p (.clock before), .requestWrite p (.clock after), .requestWrite p .deselect] s =
      exec (.requestWrite p (.whole (before ++ after))) s) ∧
  (∀ (s : State) (p : Port), exec (.requestWrite p .select) s = .next (s.setPort p { s.port p with
    fetch := none, write := some .opened, driven := [] })) ∧
  (∀ (s : State) (p : Port), exec (.requestWrite p .deselect) s = .next (s.setPort p { s.port p with
    fetch := none, write := none })) ∧
  (∀ (s : State) (p : Port) (status : Status) (byte : Byte) (more : List Byte), (s.port p).fetch = none →
    (status, byte) ∈ [(Status.accepted, (0x01 : Byte)), (.badLength, 0x03), (.queueFull, 0x0D)] →
    (s.port p).write = some (.answered status 0) → 1 ≤ more.length →
    exec (.requestWrite p (.clock more)) s = .next (s.setPort p { s.port p with
      write := some (.answered status more.length)
      driven := (s.port p).driven ++ byte :: List.replicate (more.length - 1) 0 }))

/-- A whole FETCH drives the oldest reply, else the oldest notice, else 00h alone, and removes the item once its last byte is
clocked; a notice dropped while the FETCH of a notice is in progress keeps the lost flag set (R182, R191). What one command covers
is the model's (log 10): a FETCH taken in the parts choose, clock and deselect comes to the same as the whole transaction, and so
does a transaction of any first byte 02h; a transaction that opens ends one in progress; and bytes clocked with no transaction in
progress, as after a part reset (R190), read 00h. -/
def Obligations.FetchReturnsTheOldestItem : Prop :=
  (∀ (s : State) (p : Port) (n : Nat),
    (∀ (k : Fin 4) (r : Reply) (image : List Byte),
      FirstWith (fun j : Fin 4 => (s.port p).slots[j].isReplied = true) (s.port p).order k →
      (s.port p).slots[k] = .replied r →
      image = [0x01, r.tag, byte1 r.status.code, byte1 r.results.length] ++ r.results →
      exec (.fetch p (.whole n)) s = .next (s.setPort p { s.port p with
        fetch := none, write := none, driven := image.take n ++ List.replicate (n - image.length) 0
        slots := if image.length ≤ n then (s.port p).slots.set k .free else (s.port p).slots
        order := if image.length ≤ n then (s.port p).order.filter (fun j => decide (j ≠ k)) else (s.port p).order })) ∧
    (∀ (x : Notice) (rest : List Notice) (image : List Byte),
      (∀ j ∈ (s.port p).order, (s.port p).slots[j].isReplied = false) → (s.port p).notices = x :: rest →
      image = [0x02, byte1 x.kindCode, if (s.port p).lost then 1 else 0, byte1 x.argBytes.length] ++ x.argBytes →
      exec (.fetch p (.whole n)) s = .next (s.setPort p { s.port p with
        fetch := none, write := none, driven := image.take n ++ List.replicate (n - image.length) 0
        notices := if image.length ≤ n then rest else x :: rest
        lost := if image.length ≤ n then false else (s.port p).lost })) ∧
    ((∀ j ∈ (s.port p).order, (s.port p).slots[j].isReplied = false) → (s.port p).notices = [] →
      exec (.fetch p (.whole n)) s = .next (s.setPort p { s.port p with
        fetch := none, write := none, driven := List.replicate n 0 }))) ∧
  (∀ (s : State) (p : Port) (m n : Nat),
    runAll [.fetch p .choose, .fetch p (.clock m), .fetch p (.clock n), .fetch p .deselect] s =
      exec (.fetch p (.whole (m + n))) s) ∧
  (∀ (s t : State) (p : Port) (x y : Notice) (rest : List Notice) (n : Nat),
    (s.port p).present = true → (∀ j ∈ (s.port p).order, (s.port p).slots[j].isReplied = false) →
    (s.port p).notices = x :: rest → rest.length = 15 → y.masked (s.port p).mask = false → 4 + x.argBytes.length ≤ n →
    exec (.fetch p .choose) s = .next t →
    ∃ u, runAll [.fetch p (.clock n), .fetch p .deselect] (t.post p y) = .next u ∧
      (u.port p).lost = true ∧ (u.port p).notices = rest) ∧
  (∀ (s : State) (p : Port) (n : Nat), (s.port p).fetch = none → (s.port p).write = none →
    exec (.fetch p (.clock n)) s =
      .next (s.setPort p { s.port p with driven := (s.port p).driven ++ List.replicate n 0 })) ∧
  (∀ (s : State) (p : Port) (more : List Byte),
    exec (.requestWrite p (.whole (0x02 :: more))) s = exec (.fetch p (.whole more.length)) s)

/-- What a notice posted to a port comes to there, and the classes of the notices (R183, R187). -/
def Obligations.NoticeIsQueuedOrDropped : Prop :=
  (∀ (s : State) (p : Port) (x : Notice),
    (∀ q, q ≠ p → (s.post p x).port q = s.port q) ∧ (s.post p x).withPorts s.ports = s ∧
    ((s.port p).present = false → (s.post p x).port p = s.port p) ∧
    (∀ c, x.classBit = some c → (s.port p).mask.getLsbD c = false → (s.post p x).port p = s.port p) ∧
    ((s.port p).present = true → (∀ c, x.classBit = some c → (s.port p).mask.getLsbD c = true) →
      ((s.port p).notices.length < 16 →
        (s.post p x).port p = { s.port p with notices := (s.port p).notices ++ [x] } ∧
        ((s.post p x).port p).attention = true) ∧
      (16 ≤ (s.port p).notices.length →
        ((s.post p x).port p).lost = true ∧ ((s.post p x).port p).notices = (s.port p).notices ∧
        ((s.post p x).port p).slots = (s.port p).slots))) ∧
  (∀ (s : State) (x : Notice) (left : Option Port) (p : Port),
    (s.postAll x left).port p = if left = some p then s.port p else (s.post p x).port p) ∧
  (∀ (a : SlotId) (b : Nat) (c : Origin) (d : Trigger) (e : Word), (Notice.pageStored a b c d e).classBit = some 0) ∧
  (∀ (a : SlotId) (b : Nat) (c : Origin) (d : FailCause), (Notice.captureFailed a b c d).classBit = some 0) ∧
  (∀ (a : Trigger) (b : SkipCause) (c : Word), (Notice.captureSkipped a b c).classBit = some 0) ∧
  (∀ (a : SlotId) (b : Nat) (c : Port), (Notice.pageDiscarded a b c).classBit = some 0) ∧
  (∀ (a : Word) (b : Bool), (Notice.intakeStalled a b).classBit = some 1 ∧ (Notice.intakeResumed a).classBit = some 1) ∧
  (∀ (a b : FeedState) (c : OutputMode) (d : FeedCause), (Notice.feedState a b c d).classBit = some 2) ∧
  (∀ (a : FeedArea) (b : BufId) (c : Nat), (Notice.feedFault a b c).classBit = some 2) ∧
  (∀ (a b : LessonState) (c d : Nat) (e : LessonCause), (Notice.lessonState a b c d e).classBit = some 3) ∧
  (∀ (a : Channel) (b : SlotId) (c : Nat) (d : Scope) (e : Nat) (f : Port), (Notice.exportDone a b c d e f).classBit = some 4) ∧
  (∀ (a : HaltCause) (b : Option Block), (Notice.exportHalted a b).classBit = some 4) ∧
  (∀ (a : Option Port) (b c : Bool) (d : TenancyCause), (Notice.viewGranted a b c d).classBit = none) ∧
  (∀ (a : TenancyCause) (b : Port), (Notice.viewLost a b).classBit = none)

/-- Which request a port hands on, the reply placed in its slot, and the request handed on after it (R181). -/
def Obligations.ReplyIsPlacedAndTheNextRequestHandedOn : Prop :=
  (∀ (r : PortRec) (k : Fin 4) (q : Request),
    (FirstWith (fun j : Fin 4 => r.slots[j].isExecuting = true) r.order k → r.slots[k] = .executing q →
      r.current = some (k, q)) ∧
    ((∀ j ∈ r.order, r.slots[j].isExecuting = false) →
      FirstWith (fun j : Fin 4 => r.slots[j].waiting?.isSome = true) r.order k → r.slots[k] = .waiting q →
      r.current = some (k, q)) ∧
    (r.current = some (k, q) → r.slots[k] = .executing q ∨ r.slots[k] = .waiting q)) ∧
  (∀ (s : State) (p : Port) (k : Fin 4) (q : Request) (st : Status) (results : List Byte),
    ∃ r : PortRec, s.reply p k q st results = s.setPort p r ∧
      r = { s.port p with slots := r.slots } ∧
      r.slots[k] = .replied { tag := q.tag, status := st, results := results } ∧
      ((∃ j : Fin 4, j ≠ k ∧ (s.port p).slots[j].isExecuting = true) → ∀ j : Fin 4, j ≠ k → r.slots[j] = (s.port p).slots[j]) ∧
      (∀ (j : Fin 4) (q' : Request), (∀ i : Fin 4, i ≠ k → (s.port p).slots[i].isExecuting = false) →
        FirstWith (fun i : Fin 4 => i ≠ k ∧ (s.port p).slots[i].waiting?.isSome = true) (s.port p).order j →
        (s.port p).slots[j] = .waiting q' →
        r.slots[j] = .executing q' ∧ ∀ i : Fin 4, i ≠ k → i ≠ j → r.slots[i] = (s.port p).slots[i]) ∧
      ((∀ j ∈ (s.port p).order, j ≠ k → (s.port p).slots[j].waiting? = none) →
        ∀ j : Fin 4, j ≠ k → r.slots[j] = (s.port p).slots[j])) ∧
  (∀ (s : State) (p q : Port) (r : PortRec),
    (s.setPort p r).port q = (if q = p then r else s.port q) ∧ (s.setPort p r).withPorts s.ports = s)

/-- A request whose length R192 does not allow is answered BAD_LENGTH by its port, and one whose code names no request
UNKNOWN_REQUEST; neither changes anything else (R181, R192). -/
def Obligations.BadLengthAndUnknownCodeAreAnsweredByThePort : Prop :=
  (∀ (s : State) (p : Port) (k : Fin 4) (q : Request), (s.port p).current = some (k, q) →
    ∀ row ∈ [(Instr.partRead p, 0x01, 0, 0), (.setParam p, 0x02, 5, 5), (.getParam p, 0x03, 1, 1), (.portReset p, 0x04, 0, 0),
      (.claimView p, 0x10, 3, 3), (.releaseView p, 0x11, 0, 0), (.withdrawClaim p, 0x12, 0, 0), (.tenancyRead p, 0x13, 0, 0),
      (.zoomTo p, 0x20, 3, 3), (.zoomBy p, 0x21, 3, 3), (.panTo p, 0x22, 4, 4), (.panBy p, 0x23, 4, 4),
      (.setSource p, 0x24, 4, 4), (.freeze p, 0x25, 0, 0), (.unfreeze p, 0x26, 0, 0), (.blank p, 0x27, 0, 0),
      (.unblank p, 0x28, 0, 0), (.viewRead p, 0x29, 0, 0), (.setClarity p, 0x30, 1, 1), (.setExposure p, 0x31, 3, 3),
      (.setLamp p, 0x32, 2, 2), (.pictureRead p, 0x33, 0, 0), (.setOutputMode p, 0x38, 1, 1), (.feedRead p, 0x39, 0, 0),
      (.discard p, 0x41, 3, 3), (.label p, 0x42, 3, 28), (.pageRead p, 0x43, 1, 1), (.thumbRead p, 0x44, 2, 2),
      (.lessonStart p, 0x50, 0, 0), (.lessonPause p, 0x51, 0, 0), (.lessonResume p, 0x52, 0, 0), (.lessonEnd p, 0x53, 0, 0),
      (.lessonClear p, 0x54, 0, 0), (.lessonRead p, 0x55, 0, 0), (.exportPage p, 0x60, 6, 6), (.exportStop p, 0x61, 1, 1),
      (.exportContinue p, 0x62, 1, 1), (.exportResume p, 0x63, 0, 0), (.exportRead p, 0x64, 0, 0)],
      q.code.toNat = row.2.1 → (q.args.length < row.2.2.1 ∨ row.2.2.2 < q.args.length) →
      exec row.1 s = .next (s.reply p k q .badLength [])) ∧
  (∀ (s : State) (p : Port) (k : Fin 4) (q : Request), Hands s p k q 0x40 [] →
    exec (.captureNow p) s = .next (s.reply p k q .badLength []) ∧
    exec (.captureNext p) s = .next (s.reply p k q .badLength [])) ∧
  (∀ (s : State) (p : Port) (k : Fin 4) (q : Request), (s.port p).current = some (k, q) →
    q.code.toNat ∉ [0x01, 0x02, 0x03, 0x04, 0x10, 0x11, 0x12, 0x13, 0x20, 0x21, 0x22, 0x23, 0x24, 0x25, 0x26, 0x27, 0x28,
      0x29, 0x30, 0x31, 0x32, 0x33, 0x38, 0x39, 0x40, 0x41, 0x42, 0x43, 0x44, 0x50, 0x51, 0x52, 0x53, 0x54, 0x55, 0x60,
      0x61, 0x62, 0x63, 0x64] →
    exec (.unknownRequestCode p) s = .next (s.reply p k q .unknownRequest []))

/-- A port reset: the slots, the notices, the lost flag, the mask and the tenancy, by PORT_RESET and by the presence line,
and the presence line's return; the view of a holder that resets goes to the best waiter, with VIEW_GRANTED, or to no port, with
cause PORT_RESET, and the reset port receives no tenancy notice (R115, R116, R118, R180, R184, R185). The halt that the recorder's
line also causes is in `HaltEventsStopTheLink`. That a FETCH in progress goes on, that the presence line cuts a WRITE in progress and
that PORT_RESET leaves it is the model's reading (log 11), and that the answers of a PART_READ in progress go with it (log 27). -/
def Obligations.PortResetEmptiesThePort : Prop :=
  (∀ (s : State) (p : Port) (k : Fin 4) (q : Request), Hands s p k q 0x04 [] → (s.port p).order.Nodup → s.tenancyOk →
    ∃ t, exec (.portReset p) s = .next t ∧
      (t.port p).slots[k] = .replied { tag := q.tag, status := .ok, results := [] } ∧
      (∀ j : Fin 4, j ≠ k → (t.port p).slots[j] = .free) ∧ (t.port p).order = [k] ∧
      (t.port p).lost = false ∧ (t.port p).mask = 31 ∧ (t.port p).present = (s.port p).present ∧
      (t.port p).write = (s.port p).write ∧ (t.port p).driven = (s.port p).driven ∧ (t.port p).answers = [] ∧
      (t.port p).fetch = (s.port p).fetch.map (fun f => { f with live := false, taken := false }) ∧
      (s.tenancy.holder ≠ some p →
        (t.port p).notices = [] ∧ (∀ j, j ≠ p → t.port j = s.port j) ∧
        t = { s with ports := t.ports, tenancy := { s.tenancy with
                       waiters := s.tenancy.waiters.filter fun w => decide (w.port ≠ p) } }) ∧
      (s.tenancy.holder = some p → s.tenancy.waiters = [] →
        (t.port p).notices = [] ∧ (∀ j, j ≠ p → t.port j = s.port j) ∧
        t = { s with
              ports := t.ports
              tenancy := { holder := none, holdFast := false, singleUse := false, idle := 0, waiters := [] }
              view := { s.view with staged := { s.view.staged with target := s.view.zoom } }
              timeline := s.timeline.offer s.lesson.state s.lesson.time
                { kind := .tenantChanged, port := none, page := none, view := none, extra := 256 * portNumber p + 7 } }) ∧
      (∀ (w : Waiter) (rest : List Waiter), s.tenancy.holder = some p → s.tenancy.waiters = w :: rest →
        (∃ r : PortRec,
          r = { s.port p with
            slots := r.slots, order := [k], notices := [], lost := false, mask := 31, fetch := r.fetch, answers := [] } ∧
          r.slots[k] = (s.port p).slots[k] ∧
          t = (((afterHandover (s.setPort p r) { holder := some w.port, holdFast := w.holdFast, singleUse := w.singleUse, idle := 0,
                                                 waiters := rest } 7).post w.port
              (.viewGranted (some p) w.holdFast w.singleUse .portReset)).settle).reply p k q .ok []) ∧
        (0 < s.params.yieldDelay →
          t.tenancy = { holder := some w.port, holdFast := w.holdFast, singleUse := w.singleUse, idle := 0, waiters := rest } ∧
          (t.port p).notices = [] ∧
          t.port w.port = (s.port w.port).take (.viewGranted (some p) w.holdFast w.singleUse .portReset) ∧
          (∀ j, j ≠ p → j ≠ w.port → t.port j = s.port j) ∧
          t = { s with
            ports := t.ports, tenancy := t.tenancy
            view := { s.view with staged := { s.view.staged with target := s.view.zoom } }
            timeline := s.timeline.offer s.lesson.state s.lesson.time
              { kind := .tenantChanged, port := some w.port, page := none, view := none
                extra := 256 * portNumber p + 7 } }))) ∧
  (∀ (s : State) (p : Port), (s.port p).present = true → ∃ t, exec (.presenceLost p) s = .next t ∧
    (t.port p).present = false ∧ (∀ j : Fin 4, (t.port p).slots[j] = .free) ∧ (t.port p).order = [] ∧
    (t.port p).notices = [] ∧ (t.port p).lost = false ∧ (t.port p).mask = 31 ∧ (t.port p).attention = false ∧
    (t.port p).write = none ∧ (t.port p).fetch = (s.port p).fetch.map (fun f => { f with live := false, taken := false }) ∧
    (t.port p).driven = (s.port p).driven ∧ (t.port p).answers = [] ∧
    (p ≠ .recorder ∨ (∃ cause, s.link.state = .halted cause) → PortDropped s p t)) ∧
  (∀ (s : State) (p : Port) (w : Waiter) (rest : List Waiter), (s.port p).present = true →
    s.tenancy.holder = some p → s.tenancy.waiters = w :: rest → s.tenancyOk → 0 < s.params.yieldDelay →
    ∃ t, exec (.presenceLost p) s = .next t ∧ t.tenancy =
      { holder := some w.port, holdFast := w.holdFast, singleUse := w.singleUse, idle := 0, waiters := rest } ∧
      (p ≠ .recorder →
        t.port w.port = (s.port w.port).take (.viewGranted (some p) w.holdFast w.singleUse .portReset) ∧
        (∀ j, j ≠ p → j ≠ w.port → t.port j = s.port j))) ∧
  (∀ (s : State) (p : Port), exec (.presenceRestored p) s = .next (s.setPort p { s.port p with present := true }))

/-! ### Parameters and reads -/

/-- SET_PARAM of every parameter: the value kept, the refusals and what the owner does; a write of RANK_ORDER re-sorts the wait
set, and a write of any of the tenancy unit's parameters is followed by the evaluation of the handover conditions; GET_PARAM
answers the value held, the port's own mask for NOTICE_MASK, and refuses what is no parameter (R51, R103, R109, R111, R151,
R187, R188). -/
def Obligations.ParametersAreWrittenAndRead : Prop :=
  (∀ (s : State) (p : Port) (k : Fin 4) (q : Request) (id a b c d : Byte) (v : Nat), Hands s p k q 0x02 [id, a, b, c, d] →
    v = 16777216 * a.toNat + 65536 * b.toNat + 256 * c.toNat + d.toNat →
    (∀ (lo hi kept : Nat) (ps : Params), kept = max lo (min hi v) →
      (id, lo, hi, ps) ∈ [((0x01 : Byte), 5, 240, { s.params with stallLimit := kept }),
        (0x02, 0, 63, { s.params with clarityGain := kept }), (0x03, 0, 31, { s.params with clarityCore := kept }),
        (0x04, 16, 240, { s.params with exposureTarget := kept }), (0x05, 0, 32, { s.params with exposureDeadband := kept }),
        (0x06, 1, 255, { s.params with motionHigh := kept, motionLow := min s.params.motionLow (kept - 1) }),
        (0x08, 1, 30, { s.params with settleFrames := kept }), (0x0D, 0, 64, { s.params with duplicateLimit := kept }),
        (0x0F, 10, 1000, { s.params with exportTimeout := kept }), (0x10, 1, 256, { s.params with readyCount := kept }),
        (0x11, 100, 60000, { s.params with readyAge := kept })] →
      exec (.setParam p) s = .next (({ s with params := ps } : State).reply p k q .ok (be32 kept))) ∧
    (id = 0x07 → ∀ kept, kept = min (min 254 v) (s.params.motionHigh - 1) →
      exec (.setParam p) s =
        .next (({ s with params := { s.params with motionLow := kept } } : State).reply p k q .ok (be32 kept))) ∧
    (id = 0x0C → (v ≤ 1 → exec (.setParam p) s = .next (({ s with
          params := { s.params with pageTurnCapture := decide (v = 1) } } : State).reply p k q .ok (be32 v))) ∧
      (2 ≤ v → exec (.setParam p) s = .next (s.reply p k q .badArgument []))) ∧
    (id = 0x0E → ∀ kept, kept = (if v = 0 then 0 else max 5 (min 600 v)) →
      exec (.setParam p) s = .next (({ s with
          params := { s.params with timedInterval := kept }
          lesson := { s.lesson with timed := if kept = 0 then 0 else s.lesson.timed } } : State).reply p k q .ok (be32 kept))) ∧
    (id = 0x12 → (v ≤ 31 → exec (.setParam p) s =
          .next ((s.setPort p { s.port p with mask := BitVec.ofNat 5 v }).reply p k q .ok (be32 v))) ∧
      (32 ≤ v → exec (.setParam p) s = .next (s.reply p k q .badArgument []))) ∧
    (id = 0x09 → 6 ≤ v → exec (.setParam p) s = .next (s.reply p k q .badArgument [])) ∧
    (id = 0 ∨ 0x12 < id → exec (.setParam p) s = .next (s.reply p k q .badArgument []))) ∧
  (∀ (s : State) (p : Port) (k : Fin 4) (q : Request) (id a b c d : Byte) (v kept : Nat) (ps : Params) (ws : List Waiter),
    Hands s p k q 0x02 [id, a, b, c, d] →
    v = 16777216 * a.toNat + 65536 * b.toNat + 256 * c.toNat + d.toNat →
    ((id = 0x09 ∧ v ≤ 5 ∧ kept = v ∧ ps = { s.params with rankOrder := v } ∧
        (∀ w, w ∈ ws ↔ w ∈ s.tenancy.waiters) ∧ (ws.map fun w => w.port).Sublist (rankList v)) ∨
      (id = 0x0A ∧ kept = min 60000 v ∧ ps = { s.params with yieldDelay := kept } ∧ ws = s.tenancy.waiters) ∨
      (id = 0x0B ∧ kept = min 3600 v ∧ ps = { s.params with holdFastLimit := kept } ∧ ws = s.tenancy.waiters)) →
    s.tenancyOk →
    exec (.setParam p) s = .next
      ((({ s with params := ps, tenancy := { s.tenancy with waiters := ws } } : State).settle).reply p k q .ok (be32 kept))) ∧
  (∀ (s : State) (p : Port) (k : Fin 4) (q : Request) (id : Byte), Hands s p k q 0x03 [id] →
    (∀ v : Nat, (id, v) ∈ [((0x01 : Byte), s.params.stallLimit), (0x02, s.params.clarityGain), (0x03, s.params.clarityCore),
        (0x04, s.params.exposureTarget), (0x05, s.params.exposureDeadband), (0x06, s.params.motionHigh),
        (0x07, s.params.motionLow), (0x08, s.params.settleFrames), (0x09, s.params.rankOrder), (0x0A, s.params.yieldDelay),
        (0x0B, s.params.holdFastLimit), (0x0C, if s.params.pageTurnCapture then 1 else 0), (0x0D, s.params.duplicateLimit),
        (0x0E, s.params.timedInterval), (0x0F, s.params.exportTimeout), (0x10, s.params.readyCount),
        (0x11, s.params.readyAge), (0x12, (s.port p).mask.toNat)] →
      exec (.getParam p) s = .next (s.reply p k q .ok (be32 v))) ∧
    (id = 0 ∨ 0x12 < id → exec (.getParam p) s = .next (s.reply p k q .badArgument [])))

/-- PART_READ, TENANCY_READ and LESSON_READ answer the fields their tables list, and VIEW_READ, PICTURE_READ, FEED_READ and
EXPORT_READ the layouts of R196; none of them changes anything but the reply and the answers of a PART_READ in progress (R54, R69,
R89, R114, R150, R175, R189, R196). The blocks answer PART_READ one after another: how the command takes their answers is the
model's (log 27), and so are the flags of an empty wait place (log 32). -/
def Obligations.SummaryAndBlockReadsReportTheRecords : Prop :=
  (∀ (s : State) (p : Port) (k : Fin 4) (q : Request),
    (Hands s p k q 0x01 [] →
      exec (.partRead p) s = .next ((s.setPort p { s.port p with answers := [] }).reply p k q .ok
        ([byte1 (portNumber p)] ++ [SummaryBlock.intake, .feed, .tenancy, .lesson, .store, .pool, .link].flatMap fun b =>
          answeredOr (s.port p) b (summaryOf s b))) ∧
      (∀ b : SummaryBlock, (∀ a ∈ (s.port p).answers, a.block ≠ b) →
        exec (.partRead p (.ask b)) s = .next (s.setPort p { s.port p with
          slots := (s.port p).slots.set k (.executing q)
          answers := (s.port p).answers ++ [{ block := b, bytes := summaryOf s b }] })) ∧
      (∀ b : SummaryBlock, (∃ a ∈ (s.port p).answers, a.block = b) → exec (.partRead p (.ask b)) s = .next s)) ∧
    (Hands s p k q 0x13 [] → ∀ w0 w1 : List Byte,
      w0 = (match s.tenancy.waiters[0]? with
        | some w => [byte1 (portNumber w.port), flag1 w.holdFast, flag1 w.singleUse]
        | none => [0, 0, 0]) →
      w1 = (match s.tenancy.waiters[1]? with
        | some w => [byte1 (portNumber w.port), flag1 w.holdFast, flag1 w.singleUse]
        | none => [0, 0, 0]) →
      exec (.tenancyRead p) s = .next (s.reply p k q .ok
        ([byte1 (portCode s.tenancy.holder), flag1 s.tenancy.holdFast, flag1 s.tenancy.singleUse] ++ be32 s.tenancy.idle
          ++ [byte1 s.tenancy.waiters.length] ++ w0 ++ w1
          ++ [byte1 s.params.rankOrder,
              if s.tenancy.holder = some p then 1 else if ∃ w ∈ s.tenancy.waiters, w.port = p then 2 else 0]))) ∧
    (Hands s p k q 0x55 [] → ∀ age : Nat,
      age = (match s.timeline.entries.find? fun e => !e.isSealed with
        | some e => min 65535 (s.timeline.ms - e.arrival).toNat
        | none => 0) →
      exec (.lessonRead p) s = .next (s.reply p k q .ok
        ([byte1 s.lesson.state.code] ++ be16 s.lesson.number ++ be32 s.lesson.time ++ be16 s.params.timedInterval
          ++ be16 s.lesson.timed ++ be16 s.timeline.entries.length ++ be16 (s.timeline.entries.countP fun e => e.isSealed)
          ++ be16 s.timeline.gap ++ be16 s.timeline.nextSeq.toNat ++ be16 age)))) ∧
  (∀ (s : State) (p : Port) (k : Fin 4) (q : Request),
    (Hands s p k q 0x29 [] → ∀ (view : ViewRec → List Byte) (window : Window → List Byte),
      (∀ v : ViewRec, view v = [byte1 v.source.code, flag1 v.frozen, flag1 v.blank]
        ++ (match v.page with
            | some r => [byte1 r.slot.val] ++ be16 r.serial
            | none => [255, 0, 0])
        ++ be16 v.target ++ [byte1 v.glide] ++ be16 v.cx ++ be16 v.cy ++ [byte1 (portCode v.author)]) →
      (∀ w : Window, window w = be16 w.x0 ++ be16 w.y0 ++ be16 w.w ++ be16 w.h ++ [byte1 w.d] ++ be32 w.step) →
      exec (.viewRead p) s = .next (s.reply p k q .ok
        (view s.view.staged ++ view s.view.active ++ be16 s.view.zoom ++ window s.view.camera
          ++ (match s.view.pageArea with
              | some w => window w
              | none => List.replicate 13 0)
          ++ [match s.view.held with
              | some b => byte1 b.val
              | none => 255]))) ∧
    (Hands s p k q 0x33 [] →
      exec (.pictureRead p) s = .next (s.reply p k q .ok
        ([byte1 s.intake.state.code, flag1 s.intake.stalled, byte1 s.intake.profile.code, byte1 s.intake.gain,
            byte1 s.intake.core] ++ be32 s.intake.startCount.toNat
          ++ (match s.intake.lastInterval with
              | some i => [1] ++ be32 i.toNat
              | none => [0, 0, 0, 0, 0])
          ++ be16 s.intake.skipped ++ be16 s.intake.malformed ++ [byte1 s.light.mode.code, byte1 s.light.e, byte1 s.light.manual]
          ++ (match s.light.last with
              | some m => [1, byte1 m.mean] ++ be16 m.cells
              | none => [0, 0, 0, 0])
          ++ [byte1 s.params.exposureTarget, byte1 s.light.setLevel, byte1 s.light.applied, flag1 s.light.auto,
              byte1 s.light.darkRun, byte1 s.light.brightRun] ++ be16 s.light.period ++ be16 s.light.onTime
          ++ (match s.motion.score with
              | some n => [1, byte1 n]
              | none => [0, 0])
          ++ [byte1 s.motion.detector.code, byte1 s.motion.settle]))) ∧
    (Hands s p k q 0x39 [] → ∀ (pin : Option BufId → Byte),
      (∀ b, pin b = match b with
        | some b => byte1 b.val
        | none => 255) →
      exec (.feedRead p) s = .next (s.reply p k q .ok
        ([byte1 s.feed.state.code, byte1 s.feed.mode.code, flag1 s.feed.sense, byte1 s.feed.starting]
          ++ be32 s.feed.frames.toNat ++ be16 s.feed.faults
          ++ [byte1 (if s.feed.state = .detached then 1 else s.feed.first.showing.code), pin s.feed.first.pin,
              byte1 (if s.feed.state = .detached ∨ s.view.active.source ≠ .split then 1 else s.feed.second.showing.code),
              pin s.feed.second.pin]))) ∧
    (Hands s p k q 0x64 [] → ∀ (channel : Chan → List Byte),
      (∀ c, channel c = match c with
        | .idle => List.replicate 15 0
        | .used _ d => [byte1 c.stateCode, byte1 d.slot.val] ++ be16 d.serial ++ [byte1 d.scope.code, byte1 d.mode.code]
            ++ be32 d.total ++ be32 d.sent ++ [byte1 (portNumber d.requester)]) →
      exec (.exportRead p) s = .next (s.reply p k q .ok
        ([byte1 s.link.state.code, match s.link.state with
            | .halted cause => byte1 cause.code
            | _ => 0]
          ++ (match s.link.state with
              | .delivering b => [byte1 (blockChannelCode b.channel)] ++ be32 b.index
              | _ => [255, 0, 0, 0, 0])
          ++ be16 s.link.time
          ++ [match s.link.lastServed with
              | some c => byte1 (channelCode c)
              | none => 255] ++ be16 s.link.halts
          ++ [flag1 (timelineReady s.timeline s.lesson.state s.params)] ++ channel s.link.ex0 ++ channel s.link.ex1))))
/-! ### The view tenancy unit -/

namespace Sys2Proof.Statements

/-- The gated requests of port `p` with their codes (R104, R192). -/
def gatedCommands (p : Port) : List (Instr × Nat) :=
  [(.zoomTo p, 0x20), (.zoomBy p, 0x21), (.panTo p, 0x22), (.panBy p, 0x23), (.setSource p, 0x24), (.freeze p, 0x25),
    (.unfreeze p, 0x26), (.blank p, 0x27), (.unblank p, 0x28), (.setClarity p, 0x30), (.setExposure p, 0x31),
    (.setLamp p, 0x32), (.setOutputMode p, 0x38)]

end Sys2Proof.Statements

/-- A gated request of a port that does not hold the view is answered NOT_HOLDER and changes nothing; one that finds no holder
claims the view first, with cause AUTO_CLAIM, and is then carried out as the holder's (R104, R105). -/
def Obligations.GatedRequestsAskForTheHolder : Prop :=
  (∀ (s : State) (p h : Port) (k : Fin 4) (q : Request), (s.port p).current = some (k, q) → lengthAllowed q = true →
    s.tenancy.holder = some h → h ≠ p → ∀ row ∈ gatedCommands p, q.code.toNat = row.2 →
    exec row.1 s = .next (s.reply p k q .notHolder [])) ∧
  (∀ (s : State) (p : Port) (k : Fin 4) (q : Request), (s.port p).current = some (k, q) → lengthAllowed q = true →
    s.tenancy.holder = none → ∀ row ∈ gatedCommands p, q.code.toNat = row.2 →
    exec row.1 s = exec row.1
      (afterHandover s { holder := some p, holdFast := false, singleUse := false, idle := 0, waiters := [] } 2))

/-- A gated request of a single-use holder has the effect it has without the flag, and then the view passes to the best
waiter with cause SINGLE_USE and the conditions are evaluated (R110, R115, R116). -/
def Obligations.SingleUseHolderYieldsAfterARequest : Prop :=
  ∀ (s t : State) (p : Port) (k : Fin 4) (q : Request) (w : Waiter) (rest : List Waiter),
    (s.port p).current = some (k, q) → lengthAllowed q = true → s.tenancy.holder = some p → s.tenancy.singleUse = true →
    s.tenancy.waiters = w :: rest → ∀ row ∈ gatedCommands p, q.code.toNat = row.2 →
    exec row.1 { s with tenancy := { s.tenancy with singleUse := false } } = .next t →
    exec row.1 s = .next
      ((((afterHandover t { holder := some w.port, holdFast := w.holdFast, singleUse := w.singleUse, idle := 0,
                            waiters := rest } 5).post p (.viewLost .singleUse w.port)).post w.port
          (.viewGranted (some p) w.holdFast w.singleUse .singleUse)).settle)

/-- The evaluation of the handover conditions: it stops where neither holds, it acts on preemption first and on idleness
next, and a handover gives the view to the best waiter with both notices (R107, R108, R109, R111, R115, R116). -/
def Obligations.EvaluationActsUntilNoConditionHolds : Prop :=
  (∀ s : State, s.settle.tenancy.due s.settle.params = none) ∧
  (∀ s : State, s.tenancy.waiters = [] ∨ s.tenancy.holder = none → s.settle = s) ∧
  (∀ (s : State) (h : Port) (w : Waiter) (rest : List Waiter), s.tenancy.holder = some h → s.tenancy.waiters = w :: rest →
    ∀ (preempted idle : Prop) (threshold : Nat),
      (preempted ↔ (rankList s.params.rankOrder).idxOf w.port < (rankList s.params.rankOrder).idxOf h ∧
        s.tenancy.holdFast = false) →
      threshold = (if s.tenancy.holdFast then max s.params.yieldDelay (s.params.holdFastLimit * 1000)
        else s.params.yieldDelay) →
      (idle ↔ threshold ≤ s.tenancy.idle ∧ ¬ (s.tenancy.holdFast = true ∧ s.params.holdFastLimit = 0)) →
      (¬ preempted → ¬ idle → s.settle = s) ∧
      (∀ cause, (preempted ∧ cause = .preempted) ∨ (¬ preempted ∧ idle ∧ cause = .idle) →
        s.settle = (((afterHandover s { holder := some w.port, holdFast := w.holdFast, singleUse := w.singleUse, idle := 0,
                                        waiters := rest } cause.code).post h (.viewLost cause w.port)).post w.port
            (.viewGranted (some h) w.holdFast w.singleUse cause)).settle))

/-- CLAIM_VIEW, its cases in order (R106). -/
def Obligations.ClaimGivesPreemptsWaitsOrIsRefused : Prop :=
  ∀ (s : State) (p : Port) (k : Fin 4) (q : Request) (wait hold single : Byte), Hands s p k q 0x10 [wait, hold, single] →
    (1 < wait ∨ 1 < hold ∨ 1 < single → exec (.claimView p) s = .next (s.reply p k q .badArgument [])) ∧
    (wait ≤ 1 → hold ≤ 1 → single ≤ 1 →
      (s.tenancy.holder = none → exec (.claimView p) s = .next
        ((afterHandover s { holder := some p, holdFast := decide (hold = 1), singleUse := decide (single = 1), idle := 0,
                            waiters := [] } 1).reply p k q .ok [1, 0])) ∧
      (∀ h : Port, s.tenancy.holder = some h →
        (h = p → ∀ t : State, t = ({ s with tenancy := { s.tenancy with
                     holdFast := decide (hold = 1), singleUse := decide (single = 1) } } : State).settle →
          exec (.claimView p) s = .next (t.reply p k q .ok [byte1 (t.tenancy.standing p), byte1 (t.tenancy.position p)])) ∧
        (h ≠ p → s.tenancy.holdFast = false →
          (rankList s.params.rankOrder).idxOf p < (rankList s.params.rankOrder).idxOf h →
          ∀ t : State, t = ((afterHandover s { holder := some p, holdFast := decide (hold = 1)
                                               singleUse := decide (single = 1), idle := 0
                                               waiters := s.tenancy.waiters.filter fun w => decide (w.port ≠ p) } 3).post h
              (.viewLost .preempted p)).settle →
          exec (.claimView p) s = .next (t.reply p k q .ok [byte1 (t.tenancy.standing p), byte1 (t.tenancy.position p)])) ∧
        (h ≠ p → (s.tenancy.holdFast = true ∨
            (rankList s.params.rankOrder).idxOf h ≤ (rankList s.params.rankOrder).idxOf p) →
          (wait = 0 → exec (.claimView p) s = .next (s.reply p k q .busy [])) ∧
          (wait = 1 → s.tenancyOk → ∀ (ws : List Waiter) (t : State),
            (∀ w : Waiter, w ∈ ws ↔ (w ∈ s.tenancy.waiters ∧ w.port ≠ p) ∨
              w = { port := p, holdFast := decide (hold = 1), singleUse := decide (single = 1) }) →
            (ws.map fun w => w.port).Sublist (rankList s.params.rankOrder) →
            t = ({ s with tenancy := { s.tenancy with waiters := ws } } : State).settle →
            exec (.claimView p) s =
              .next (t.reply p k q .accepted [byte1 (t.tenancy.standing p), byte1 (t.tenancy.position p)])))))

/-- RELEASE_VIEW and WITHDRAW_CLAIM (R112, R113). -/
def Obligations.ReleaseAndWithdrawGiveUp : Prop :=
  (∀ (s : State) (p : Port) (k : Fin 4) (q : Request), Hands s p k q 0x11 [] →
    (s.tenancy.holder ≠ some p → exec (.releaseView p) s =
      .next (s.reply p k q .ok [if ∃ w ∈ s.tenancy.waiters, w.port = p then 2 else 0])) ∧
    (s.tenancy.holder = some p → s.tenancy.waiters = [] → exec (.releaseView p) s =
      .next ((afterHandover s nobody 6).reply p k q .ok [0])) ∧
    (∀ (w : Waiter) (rest : List Waiter) (t : State), s.tenancy.holder = some p → s.tenancy.waiters = w :: rest →
      t = ((afterHandover s { holder := some w.port, holdFast := w.holdFast, singleUse := w.singleUse, idle := 0,
                              waiters := rest } 6).post w.port
          (.viewGranted (some p) w.holdFast w.singleUse .release)).settle →
      exec (.releaseView p) s = .next (t.reply p k q .ok [byte1 (t.tenancy.standing p)]))) ∧
  (∀ (s : State) (p : Port) (k : Fin 4) (q : Request), Hands s p k q 0x12 [] →
    exec (.withdrawClaim p) s = .next (({ s with tenancy := { s.tenancy with
      waiters := s.tenancy.waiters.filter fun w => decide (w.port ≠ p) } } : State).reply p k q .ok []))

/-- A millisecond tick at the four blocks that take it, and the idle time it raises; IDLE_YIELD is the tick at which the
holder yields, at the tenancy unit (R108, R111, R144, R151, R152, R165; the order of the blocks is the model's, log 6, and
so are what IDLE_YIELD does by itself, log 5, and the operand of a LESSON_PAUSE that meets a timed capture, log 17). -/
def Obligations.MillisecondTickRaisesTheCounts : Prop :=
  (∀ (s : State) (pause : Option Port), ∃ idled : State,
    idled = ({ s with tenancy := { s.tenancy with
      idle := if s.tenancy.holder = none then s.tenancy.idle else min 4294967295 (s.tenancy.idle + 1) } } : State).settle ∧
    exec (.millisecondTick pause) s = .next ((idled.clockTick pause).timelineTick.linkTick) ∧
    (s.tenancy.waiters = [] → s.lesson.state ≠ .running → s.link.state = .ready →
      exec (.millisecondTick pause) s = .next { s with
        tenancy := { s.tenancy with
          idle := if s.tenancy.holder = none then s.tenancy.idle else min 4294967295 (s.tenancy.idle + 1) }
        timeline := { s.timeline with ms := s.timeline.ms + 1 } })) ∧
  (∀ (s : State) (h : Port) (w : Waiter) (rest : List Waiter), s.tenancy.holder = some h → s.tenancy.waiters = w :: rest →
    (s.tenancy.holdFast = false ∧ s.params.yieldDelay ≤ min 4294967295 (s.tenancy.idle + 1) ∧
        (rankList s.params.rankOrder).idxOf h ≤ (rankList s.params.rankOrder).idxOf w.port) ∨
      (s.tenancy.holdFast = true ∧ s.params.holdFastLimit ≠ 0 ∧
        max s.params.yieldDelay (s.params.holdFastLimit * 1000) ≤ min 4294967295 (s.tenancy.idle + 1)) →
    exec .idleYield s = .next
      ((((afterHandover s { holder := some w.port, holdFast := w.holdFast, singleUse := w.singleUse, idle := 0,
                            waiters := rest } 4).post h (.viewLost .idle w.port)).post w.port
          (.viewGranted (some h) w.holdFast w.singleUse .idle)).settle))

/-! ### The view unit -/

namespace Sys2Proof.Statements

/-- The state in which a gated request of the holder is carried out: the idle time is 0 (R104). -/
def admitted (s : State) : State := { s with tenancy := { s.tenancy with idle := 0 } }

/-- `b` is the newest complete buffer, with metadata `info` (section 1.4, R5). -/
def NewestComplete (pool : Pool) (b : BufId) (info : FrameMeta) : Prop :=
  ∃ before after, pool.ring = before ++ b :: after ∧ (pool.bufRec b).complete = some info ∧
    ∀ x ∈ after, (pool.bufRec x).complete = none

/-- `after` is the pool once buffer `b` of a ring of 3 has been taken for `role`: it leaves the ring with its pins, flag and
metadata, and the lowest-numbered FREE buffer, if there is one, joins the front of the ring (R5, R6, R9). -/
def Taken (pool : Pool) (b : BufId) (role : Role) (after : Pool) : Prop :=
  (pool.ring.length = 3 ∧ b ∈ pool.ring) ∧
  (((∀ x : BufId, x ≠ b → (pool.bufRec x).role ≠ .free) ∧
      after = { pool.setRec b { pool.bufRec b with role := role } with ring := pool.ring.erase b }) ∨
    ∃ c : BufId, c ≠ b ∧ (pool.bufRec c).role = .free ∧ (∀ x : BufId, x < c → x ≠ b → (pool.bufRec x).role ≠ .free) ∧
      after = { (pool.setRec b { pool.bufRec b with role := role }).setRec c
                  { pool.bufRec c with role := .ring, complete := none } with ring := c :: pool.ring.erase b })

/-- The camera window of R73, R74 and R75 for an area of `aw` × `ah` pixels, a zoom and a centre. -/
def windowOf (aw ah zoom cx cy : Nat) : Window :=
  let w0 := min 3840 (2880 * aw / ah) - min 3840 (2880 * aw / ah) % 4
  let w := w0 * 100 / zoom - w0 * 100 / zoom % 4
  let h := w * ah / aw - w * ah / aw % 4
  let left := (cx : Int) - ((w / 2 : Nat) : Int)
  let top := (cy : Int) - ((h / 2 : Nat) : Int)
  let d := if 2 * aw ≤ w then 2 else 1
  { x0 := (max 0 (min ((3840 : Int) - (w : Int)) (left - left % 4))).toNat
    y0 := (max 0 (min ((2880 : Int) - (h : Int)) (top - top % 4))).toNat
    w := w, h := h, d := d, step := w * 65536 / (d * aw) }

/-- Width and height of the full area of a mode (R72, R82). -/
def fullArea : OutputMode → Nat × Nat
  | .mode0 => (1024, 768)
  | .mode1 => (1280, 800)
  | .mode2 => (1920, 1080)

end Sys2Proof.Statements

/-- ZOOM_TO, ZOOM_BY, PAN_TO, PAN_BY, BLANK and UNBLANK of the holder (R60–R64, R68, R104). -/
def Obligations.ZoomPanAndBlankRequestsStageTheirFields : Prop :=
  (∀ (s : State) (p : Port) (k : Fin 4) (q : Request) (a b c : Byte), Holding s p →
    (Hands s p k q 0x20 [a, b, c] → ∀ target glide : Nat,
      target = max 100 (min 1600 (256 * a.toNat + b.toNat)) → glide = min 100 c.toNat →
      exec (.zoomTo p) s = .next (({ admitted s with view := { s.view with
          staged := { s.view.staged with target := target, glide := glide, author := some p } } } : State).reply p k q .ok
        (be16 target ++ [byte1 glide]))) ∧
    (Hands s p k q 0x21 [a, b, c] → ∀ (delta : Int) (target glide : Nat),
      delta = (a ++ b : BitVec 16).toInt →
      (target : Int) = max 100 (min 1600 ((s.view.staged.target : Int) + delta)) → glide = min 100 c.toNat →
      exec (.zoomBy p) s = .next (({ admitted s with view := { s.view with
          staged := { s.view.staged with target := target, glide := glide, author := some p } } } : State).reply p k q .ok
        (be16 target ++ [byte1 glide])))) ∧
  (∀ (s : State) (p : Port) (k : Fin 4) (q : Request) (a b c d : Byte), Holding s p →
    (Hands s p k q 0x22 [a, b, c, d] → ∀ cx cy : Nat,
      cx = min 3839 (256 * a.toNat + b.toNat) → cy = min 2879 (256 * c.toNat + d.toNat) →
      exec (.panTo p) s = .next (({ admitted s with view := { s.view with
          staged := { s.view.staged with cx := cx, cy := cy, author := some p } } } : State).reply p k q .ok
        (be16 cx ++ be16 cy))) ∧
    (Hands s p k q 0x23 [a, b, c, d] → ∀ cx cy : Nat,
      (cx : Int) = max 0 (min 3839 ((s.view.staged.cx : Int) + (a ++ b : BitVec 16).toInt)) →
      (cy : Int) = max 0 (min 2879 ((s.view.staged.cy : Int) + (c ++ d : BitVec 16).toInt)) →
      exec (.panBy p) s = .next (({ admitted s with view := { s.view with
          staged := { s.view.staged with cx := cx, cy := cy, author := some p } } } : State).reply p k q .ok
        (be16 cx ++ be16 cy)))) ∧
  (∀ (s : State) (p : Port) (k : Fin 4) (q : Request), Holding s p →
    (Hands s p k q 0x27 [] → exec (.blank p) s = .next (({ admitted s with view := { s.view with
        staged := { s.view.staged with blank := true, author := some p } } } : State).reply p k q .ok [])) ∧
    (Hands s p k q 0x28 [] → exec (.unblank p) s = .next (({ admitted s with view := { s.view with
        staged := { s.view.staged with blank := false, author := some p } } } : State).reply p k q .ok [])))

/-- SET_SOURCE, its cases (R60, R65, R104). -/
def Obligations.SetSourceStagesTheSource : Prop :=
  ∀ (s : State) (p : Port) (k : Fin 4) (q : Request) (source slot a b : Byte), Hands s p k q 0x24 [source, slot, a, b] →
    Holding s p →
    (2 < source → exec (.setSource p) s = .next ((admitted s).reply p k q .badArgument [])) ∧
    (source = 0 → exec (.setSource p) s = .next (({ admitted s with view := { s.view with
        staged := { s.view.staged with source := .camera, page := none, author := some p } } } : State).reply p k q .ok [])) ∧
    (∀ kind : Source, (source = 1 ∧ kind = .page) ∨ (source = 2 ∧ kind = .split) →
      (20 ≤ slot → exec (.setSource p) s = .next ((admitted s).reply p k q .noPage [])) ∧
      (∀ j : SlotId, slot.toNat = j.val →
        (∀ (tag : PageTag) (data : PageData), s.store.page j = .stored tag data → tag.serial = 256 * a.toNat + b.toNat →
          exec (.setSource p) s = .next (({ admitted s with view := { s.view with
              staged := { s.view.staged with
                source := kind, page := some { slot := j, serial := tag.serial }, author := some p } } } : State).reply
            p k q .ok [])) ∧
        ((∀ (tag : PageTag) (data : PageData), s.store.page j = .stored tag data → tag.serial ≠ 256 * a.toNat + b.toNat) →
          exec (.setSource p) s = .next ((admitted s).reply p k q .noPage []))))

/-- FREEZE takes the newest complete frame at once, and UNFREEZE releases it (R6, R9, R11, R58, R60, R66, R67, R104). -/
def Obligations.FreezeHoldsAndUnfreezeReleases : Prop :=
  ∀ (s : State) (p : Port) (k : Fin 4) (q : Request), Holding s p →
    (Hands s p k q 0x25 [] →
      (∀ (b : BufId) (info : FrameMeta), s.view.staged.frozen = true → s.view.held = some b →
        (s.pool.bufRec b).complete = some info →
        exec (.freeze p) s = .next (({ admitted s with view := { s.view with
            staged := { s.view.staged with author := some p } } } : State).reply p k q .ok (be32 info.frame.toNat))) ∧
      (s.view.staged.frozen = false → (∀ x ∈ s.pool.ring, (s.pool.bufRec x).complete = none) →
        exec (.freeze p) s = .next ((admitted s).reply p k q .noPicture [])) ∧
      (∀ (b : BufId) (info : FrameMeta), s.view.staged.frozen = false → NewestComplete s.pool b info →
        (s.pool.ring.length ≤ 2 → exec (.freeze p) s = .next ((admitted s).reply p k q .tryAgain [])) ∧
        (∀ after : Pool, Taken s.pool b .held after →
          exec (.freeze p) s = .next (({ admitted s with
              pool := after
              view := { s.view with staged := { s.view.staged with frozen := true, author := some p }, held := some b } }
                : State).reply p k q .ok (be32 info.frame.toNat))))) ∧
    (Hands s p k q 0x26 [] →
      (s.view.staged.frozen = false → exec (.unfreeze p) s = .next (({ admitted s with view := { s.view with
          staged := { s.view.staged with author := some p } } } : State).reply p k q .ok [])) ∧
      (∀ (b : BufId) (after : Pool), s.view.staged.frozen = true → s.view.held = some b →
        ((0 < (s.pool.bufRec b).pins ∧ after = s.pool.setRec b { s.pool.bufRec b with role := .retiring }) ∨
          ((s.pool.bufRec b).pins = 0 ∧ 3 ≤ s.pool.ring.length ∧
            after = s.pool.setRec b { role := .free, pins := 0, complete := none }) ∨
          ((s.pool.bufRec b).pins = 0 ∧ s.pool.ring.length < 3 ∧
            after = { s.pool.setRec b { role := .ring, pins := 0, complete := none } with ring := b :: s.pool.ring })) →
        exec (.unfreeze p) s = .next (({ admitted s with
            pool := after
            view := { s.view with staged := { s.view.staged with frozen := false, author := some p }, held := none } }
              : State).reply p k q .ok [])))


/-- The commit at an output frame start: the zoom moves by the glide, the windows are computed, and the centre is written
back (R70–R76, R79). -/
def Obligations.CommitComputesTheActiveView : Prop :=
  ∀ (s : State) (aw ah : Nat) (zoom : Nat) (win : Window) (record : ViewRec),
    (aw = if s.view.staged.source = .split then (fullArea s.feed.mode).1 / 2 else (fullArea s.feed.mode).1) →
    ah = (fullArea s.feed.mode).2 →
    zoom = (if s.view.staged.glide = 0 then s.view.staged.target
      else if s.view.zoom < s.view.staged.target then min (s.view.zoom + s.view.staged.glide) s.view.staged.target
      else max (s.view.zoom - s.view.staged.glide) s.view.staged.target) →
    win = windowOf aw ah zoom s.view.staged.cx s.view.staged.cy → win.w ≤ 3840 → win.h ≤ 2880 →
    record = { s.view.staged with cx := win.x0 + win.w / 2, cy := win.y0 + win.h / 2 } →
    ∃ t, exec .outputFrameStart s = .next t ∧ t.view =
      { staged := record, active := record, zoom := zoom, camera := win
        pageArea := if s.view.staged.source = .split then some (windowOf aw ah 100 1920 1440) else none
        held := s.view.held
        moved := (s.view.moved || decide (¬ (win.x0 = s.view.camera.x0 ∧ win.y0 = s.view.camera.y0 ∧
          win.w = s.view.camera.w ∧ win.h = s.view.camera.h))) && decide (zoom ≠ s.view.staged.target) }

/-- A glide reaches its target at the commit whose number is the distance divided by the glide step, rounded up, and moves
by the step at each commit before it (R71). -/
def Obligations.GlideReachesItsTarget : Prop :=
  ∀ (n : Nat) (s : State), 0 < s.view.staged.glide →
    ∃ t, runAll (List.replicate n .outputFrameStart) s = .next t ∧
      t.view.staged.target = s.view.staged.target ∧ t.view.staged.glide = s.view.staged.glide ∧
      (s.view.zoom ≤ s.view.staged.target →
        t.view.zoom = min (s.view.zoom + n * s.view.staged.glide) s.view.staged.target) ∧
      (s.view.staged.target ≤ s.view.zoom →
        t.view.zoom = max (s.view.zoom - n * s.view.staged.glide) s.view.staged.target)

namespace Sys2Proof.Statements

/-- The intake record after a malformed frame: SEEKING, no write buffer, the frame's own working fields discarded, the
malformed count raised (R22; log 14). -/
def malformedIntake (i : Intake) : Intake :=
  { i with
    state := .seeking, writeBuffer := none, frameEnd := false, malformed := min 65535 (i.malformed + 1)
    sums := List.replicate 3072 0, above := [], held := [], incoming := [] }

/-- The ports after the notices of a stall event: INTAKE_STALLED, then CAPTURE_FAILED for each reservation, in slot order (R28,
R129). -/
def stallNotices (s : State) : Ports :=
  ((List.finRange 20).foldl
    (fun u k => match s.store.page k with
      | .reserved tag _ => u.postAll (.captureFailed k tag.serial tag.origin .stalled) none
      | _ => u)
    (s.postAll (.intakeStalled s.intake.lastCompleted s.intake.completed) none)).ports

/-- An output frame start at the intake unit makes the stall event (R27). -/
abbrev StallDue (s : State) : Prop :=
  s.intake.stalled = false ∧ s.params.stallLimit ≤ min 255 (s.intake.sinceCompletion + 1)

/-- `t` is the state after an output frame start at the intake unit: the count, and the stall event where it is due, at the four
blocks (R22, R27, R28, R42, R53, R129). -/
def OutputFrameCounted (s t : State) : Prop :=
  (¬ StallDue s → t = { s with intake := { s.intake with sinceCompletion := min 255 (s.intake.sinceCompletion + 1) } }) ∧
  (StallDue s →
    t = { s with
      intake := { (if s.intake.state = .receiving then malformedIntake s.intake else s.intake) with
        stalled := true, sinceCompletion := min 255 (s.intake.sinceCompletion + 1) }
      light := { s.light with stalled := true, darkRun := 0, brightRun := 0 }
      motion := { s.motion with previous := none, score := none, detector := .watching, settle := 0 }
      store := { s.store with pages := t.store.pages }
      ports := stallNotices s } ∧
    ∀ k : SlotId, t.store.page k = match s.store.page k with
      | .reserved _ _ => .empty
      | other => other)

/-- The state after the pins of the frame before are released at a frame begin (R90); `PinReleaseFreesTheBuffer` says what each
release does. -/
def pinsReleased (s : State) : State := (s.unpin? s.feed.first.pin).unpin? s.feed.second.pin

/-- `begun` is a state after the commit and the frame begin of an output frame start: the view and the timeline as the commit leaves
them, the feed as the frame begin leaves it, the pins of the frame before released and those of this one taken, FEED_STATE posted
where RUNNING is entered, and nothing else (R70, R83, R85, R87, R90, R91). -/
def CommittedAndBegun (s begun : State) : Prop :=
  begun = { s with
    view := begun.view, timeline := begun.timeline, feed := begun.feed
    store := (pinsReleased s).store
    pool := (((pinsReleased s).pin? begun.feed.first.pin).pin? begun.feed.second.pin).pool
    ports := if s.feed.state = .starting ∧ 4 ≤ s.feed.starting then
        ((pinsReleased s).postAll (.feedState .running .starting s.feed.mode .started) none).ports
      else (pinsReleased s).ports }

end Sys2Proof.Statements

/-- An output frame start is the commit, the frame begin and the count at the intake unit, in every feed state; a commit changes the
view and the timeline alone, and each of its timeline entries is offered for the change it records; in DETACHED with no pins the
frame begin changes the frame count and the areas alone (R27, R70, R78, R79, R83; the order of the blocks is the model's, log 6). -/
def Obligations.CommitOffersItsChanges : Prop :=
  ∀ s : State, ∃ t begun, exec .outputFrameStart s = .next t ∧ CommittedAndBegun s begun ∧ OutputFrameCounted begun t ∧
      t.view = begun.view ∧ t.timeline = begun.timeline ∧ t.feed = begun.feed ∧ t.pool = begun.pool ∧
      (s.feed.state = .detached → s.feed.first.pin = none → s.feed.second.pin = none →
        begun = { s with
          view := begun.view, timeline := begun.timeline
          feed := { s.feed with
            frames := s.feed.frames + 1
            first := { pin := none, showing := .blackState, fault := none }
            second := { pin := none, showing := .blackState, fault := none } } }) ∧
      ∀ (who : Option Port) (part : ViewPart) (shown live still : Bool) (offers : List Offer),
        who = s.view.staged.author → part = { zoom := t.view.zoom, cx := t.view.active.cx, cy := t.view.active.cy } →
        (shown = true ↔ s.view.staged.source ≠ .camera ∧
          (s.view.active.source ≠ s.view.staged.source ∨ s.view.active.page ≠ s.view.staged.page)) →
        (live = true ↔ s.view.staged.source = .camera ∧ s.view.active.source ≠ .camera) →
        (still = true ↔ t.view.zoom = s.view.staged.target ∧ (s.view.moved = true ∨
          ¬ (t.view.camera.x0 = s.view.camera.x0 ∧ t.view.camera.y0 = s.view.camera.y0 ∧
            t.view.camera.w = s.view.camera.w ∧ t.view.camera.h = s.view.camera.h))) →
        offers =
          (if shown then [{ kind := .pageShown, port := who, page := s.view.staged.page, view := some part
                            extra := if s.view.staged.source = .page then 1 else 2 }] else [])
            ++ (if live then [{ kind := .liveShown, port := who, page := none, view := some part, extra := 0 }] else [])
            ++ (if s.view.staged.frozen = true ∧ s.view.active.frozen = false then
                  [{ kind := .freezeOn, port := who, page := none, view := none, extra := 0 }] else [])
            ++ (if s.view.staged.frozen = false ∧ s.view.active.frozen = true then
                  [{ kind := .freezeOff, port := who, page := none, view := none, extra := 0 }] else [])
            ++ (if s.view.staged.blank = true ∧ s.view.active.blank = false then
                  [{ kind := .blankOn, port := who, page := none, view := none, extra := 0 }] else [])
            ++ (if s.view.staged.blank = false ∧ s.view.active.blank = true then
                  [{ kind := .blankOff, port := who, page := none, view := none, extra := 0 }] else [])
            ++ (if still then
                  [{ kind := .viewChanged, port := who
                     page := if s.view.staged.source = .page then s.view.staged.page else none
                     view := some part, extra := 0 }] else []) →
        t.timeline = offers.foldl (fun line o => line.offer s.lesson.state s.lesson.time o) s.timeline

/-! ### The projector feed -/

namespace Sys2Proof.Statements

/-- What a frame begin leaves in the feed record, for the view that the commit took from the staged view (R83, R85, R90,
R91, R93). -/
def FrameBegun (s t : State) : Prop :=
  t.feed.frames = s.feed.frames + 1 ∧ t.feed.mode = s.feed.mode ∧ t.feed.sense = s.feed.sense ∧ t.feed.faults = s.feed.faults ∧
  t.feed.first.fault = none ∧ t.feed.second.fault = none ∧
  (s.feed.state = .detached → t.feed.state = .detached ∧ t.feed.starting = s.feed.starting) ∧
  (s.feed.state = .starting → s.feed.starting < 4 → t.feed.state = .starting ∧ t.feed.starting = s.feed.starting + 1) ∧
  (s.feed.state = .detached ∨ (s.feed.state = .starting ∧ s.feed.starting < 4) →
    t.feed.first.pin = none ∧ t.feed.first.showing = .blackState ∧ t.feed.second = t.feed.first) ∧
  (s.feed.state = .running ∨ (s.feed.state = .starting ∧ 4 ≤ s.feed.starting) →
    t.feed.state = .running ∧ t.feed.starting = s.feed.starting ∧
    (s.view.staged.blank = true →
      t.feed.first.pin = none ∧ t.feed.first.showing = .blackBlank ∧ t.feed.second.pin = none ∧
      t.feed.second.showing = if s.view.staged.source = .split then .blackBlank else .blackState) ∧
    (s.view.staged.blank = false →
      (s.view.staged.source ≠ .page → s.view.staged.frozen = true → ∀ b : BufId, s.view.held = some b →
        t.feed.first.pin = some b ∧ t.feed.first.showing = .picture) ∧
      (s.view.staged.source ≠ .page → s.view.staged.frozen = false →
        (∀ (b : BufId) (info : FrameMeta), NewestComplete s.pool b info →
          t.feed.first.pin = some b ∧ t.feed.first.showing = .picture) ∧
        ((∀ x ∈ s.pool.ring, (s.pool.bufRec x).complete = none) →
          t.feed.first.pin = none ∧ t.feed.first.showing = .blackNoFrame)) ∧
      (∀ (r : PageRef) (tag : PageTag) (data : PageData), s.view.staged.page = some r →
        s.store.page r.slot = .stored tag data →
        (s.view.staged.source = .page → t.feed.first.pin = some data.buffer ∧ t.feed.first.showing = .picture) ∧
        (s.view.staged.source = .split → t.feed.second.pin = some data.buffer ∧ t.feed.second.showing = .picture)) ∧
      (s.view.staged.source ≠ .split → t.feed.second.pin = none ∧ t.feed.second.showing = .blackState)))

end Sys2Proof.Statements

/-- The frame begin of an output frame start, with the FEED_STATE notice of the one that enters RUNNING, and FEED_STARTED at the
frame begin that finds the starting count at 4 (R83, R84, R85, R87, R90, R91, R93; what FEED_STARTED does by itself is the model's,
log 5, and so is the order of the frame begin and the intake unit's count, log 6). -/
def Obligations.FrameBeginSettlesTheFeed : Prop :=
  ∀ s : State, s.rolesOk →
    (∃ t begun, exec .outputFrameStart s = .next t ∧ FrameBegun s t ∧ CommittedAndBegun s begun ∧ OutputFrameCounted begun t ∧
      (s.feed.state = .starting → 4 ≤ s.feed.starting → s.feed.first.pin = none → s.feed.second.pin = none → ¬ StallDue s →
        t.ports = (s.postAll (.feedState .running .starting s.feed.mode .started) none).ports)) ∧
    (s.feed.state = .starting → 4 ≤ s.feed.starting → ∃ t, exec .feedStarted s = .next t ∧ FrameBegun s t ∧
      CommittedAndBegun s t ∧
      (s.feed.first.pin = none → s.feed.second.pin = none →
        t.ports = (s.postAll (.feedState .running .starting s.feed.mode .started) none).ports) ∧
      t.mem = s.mem ∧ t.intake = s.intake ∧ t.light = s.light ∧ t.motion = s.motion ∧ t.tenancy = s.tenancy ∧
      t.lesson = s.lesson ∧ t.link = s.link ∧ t.params = s.params)

/-- The projector sense line, and SET_OUTPUT_MODE case by case: state, starting count, showing, pins and notice (R84, R87,
R88, R92, R93; that an area in BLACK_FAULT is in BLACK_STATE then is the model's, log 13). -/
def Obligations.SenseLineAndOutputModeEnterStates : Prop :=
  ∀ (s : State) (entered : FeedState → OutputMode → Bool → Nat → Feed),
    (∀ state mode sense count, entered state mode sense count = { s.feed with
      state := state, mode := mode, sense := sense, starting := count
      first := { s.feed.first with showing := .blackState }, second := { s.feed.second with showing := .blackState } }) →
    (s.feed.state = .detached → s.feed.sense = false →
      exec .sensePresent s = .next (({ s with feed := entered .starting s.feed.mode true 0 } : State).postAll
        (.feedState .starting .detached s.feed.mode .sensePresent) none)) ∧
    (s.feed.state ≠ .detached → s.feed.sense = true →
      exec .senseAbsent s = .next (({ s with feed := entered .detached s.feed.mode false s.feed.starting } : State).postAll
        (.feedState .detached s.feed.state s.feed.mode .senseLost) none)) ∧
    (∀ (p : Port) (k : Fin 4) (q : Request) (m : Byte), Hands s p k q 0x38 [m] → Holding s p →
      (2 < m → exec (.setOutputMode p) s = .next ((admitted s).reply p k q .badArgument [])) ∧
      (∀ mode : OutputMode, (m = 0 ∧ mode = .mode0) ∨ (m = 1 ∧ mode = .mode1) ∨ (m = 2 ∧ mode = .mode2) →
        (mode = s.feed.mode → exec (.setOutputMode p) s = .next ((admitted s).reply p k q .ok [m])) ∧
        (mode ≠ s.feed.mode → s.feed.state = .detached → exec (.setOutputMode p) s =
          .next (({ admitted s with feed := { s.feed with mode := mode } } : State).reply p k q .ok [m])) ∧
        (mode ≠ s.feed.mode → s.feed.state ≠ .detached → exec (.setOutputMode p) s =
          .next ((({ admitted s with feed := entered .starting mode s.feed.sense 0 } : State).postAll
            (.feedState .starting s.feed.state mode .modeChange) none).reply p k q .ok [m]))))

/-- A read fault blackens the rest of its area for this output frame, keeps the pin, is counted and notified, and leaves the
other area as it is (R100; what a fault changes in an area that sends no picture is the model's reading, log 13). -/
def Obligations.FeedReadFaultBlackensItsArea : Prop :=
  ∀ (s : State) (b : BufId) (line pair : Nat) (faulted : Area → Area),
    (∀ a, faulted a = { a with
      showing := if a.showing = .picture then .blackFault else a.showing, fault := some { line := line, pair := pair } }) →
    (∀ which : FeedArea, (which = .full ∧ s.view.active.source ≠ .split) ∨ (which = .left ∧ s.view.active.source = .split) →
      s.feed.first.pin = some b → s.feed.first.fault = none →
      exec (.feedReadFault which b line pair) s = .next (({ s with feed := { s.feed with
          first := faulted s.feed.first, faults := min 65535 (s.feed.faults + 1) } } : State).postAll
        (.feedFault which b line) none)) ∧
    (s.view.active.source = .split → s.feed.second.pin = some b → s.feed.second.fault = none →
      exec (.feedReadFault .right b line pair) s = .next (({ s with feed := { s.feed with
          second := faulted s.feed.second, faults := min 65535 (s.feed.faults + 1) } } : State).postAll
        (.feedFault .right b line) none))

namespace Sys2Proof.Statements

/-- `out` is pair `k` of line `j` of an area that shows buffer `b` through the window `win`: the four-tap luma and the two-tap
chroma of the decimated planes (R94, R95, R96, R98). -/
def ScaledPair (m : List Host.Cell) (b : BufId) (win : Window) (j k : Nat) (out : Pair) : Prop :=
  ∀ (byteAt : Nat → Nat → Nat) (sample : (Nat → Nat) → Nat → Nat → Nat) (tap : Int → Nat → Nat),
    (∀ line offset, byteAt line offset = (Memory.read m (22118400 * b.val + 7680 * line + offset)).toNat) →
    (∀ place u v, sample place u v =
      if win.d = 1 then byteAt v (place u)
      else (byteAt (2 * v) (place (2 * u)) + byteAt (2 * v) (place (2 * u + 1)) + byteAt (2 * v + 1) (place (2 * u))
        + byteAt (2 * v + 1) (place (2 * u + 1)) + 2) / 4) →
    (∀ t size, tap t size = (max 0 (min t ((size : Int) - 1))).toNat) →
    (∀ (i : Nat) (luma : Byte), (i = 2 * k ∧ luma = out.y0) ∨ (i = 2 * k + 1 ∧ luma = out.y1) →
      ∀ (x y : Nat) (pass : Nat → (Int → Nat) → Nat),
        x = win.x0 / win.d * 65536 + i * win.step → y = win.y0 / win.d * 65536 + j * win.step →
        (∀ phase f, ∀ c0 c1 c2 c3 : Int, coefficients phase = [c0, c1, c2, c3] →
          (pass phase f : Int) = max 0 (min 255 ((c0 * f (-1) + c1 * f 0 + c2 * f 1 + c3 * f 2 + 64) / 128))) →
        luma.toNat = pass (y / 4096 % 16) fun dy => pass (x / 4096 % 16) fun dx =>
          sample (fun u => 2 * u) (tap ((x / 65536 : Nat) + dx) (3840 / win.d)) (tap ((y / 65536 : Nat) + dy) (2880 / win.d))) ∧
    (∀ (offset : Nat) (chroma : Byte), (offset = 1 ∧ chroma = out.cb) ∨ (offset = 3 ∧ chroma = out.cr) →
      ∀ (x y : Nat) (pass : Nat → (Nat → Nat) → Nat),
        x = (win.x0 / win.d * 65536 + 2 * k * win.step) / 2 → y = win.y0 / win.d * 65536 + j * win.step →
        (∀ phase f, pass phase f = ((16 - phase) * f 0 + phase * f 1 + 8) / 16) →
        chroma.toNat = pass (y / 4096 % 16) fun dy => pass (x / 4096 % 16) fun dx =>
          sample (fun u => 4 * u + offset) (min (x / 65536 + dx) (1920 / win.d - 1)) (min (y / 65536 + dy) (2880 / win.d - 1)))

/-- Pair `k` of an output line of `pairs` pairs lies in the area with record `a` and window `win`, if it has one, and is pair `col`
of it: the full area, or in SPLIT the left area with the first half of the pairs and the right area with the second (R72, R82). -/
def InArea (s : State) (pairs k : Nat) (a : Area) (win : Option Window) (col : Nat) : Prop :=
  (s.view.active.source ≠ .split ∧ a = s.feed.first ∧ win = some s.view.camera ∧ col = k) ∨
  (s.view.active.source = .split ∧ k < pairs / 2 ∧ a = s.feed.first ∧ win = some s.view.camera ∧ col = k) ∨
  (s.view.active.source = .split ∧ pairs / 2 ≤ k ∧ a = s.feed.second ∧ win = s.view.pageArea ∧ col + pairs / 2 = k)

end Sys2Proof.Statements

/-- What the projector link carries: as many lines and pairs as the mode held has, none of them in DETACHED; and in each area, the
full one or the two of SPLIT, black where it sends no picture, the scaled picture of its pinned buffer where it does, and after a
read fault the picture up to the fault's place and black from there, with the sixteen rows of coefficients (R72, R82, R84, R93,
R94, R95, R96, R97, R98, R100). That the picture is a function of the state is the model's (log 22), and so is the place of a
fault (log 13). -/
def Obligations.OutputPictureIsTheScaledBuffer : Prop :=
  (List.range 16).map coefficients =
    [[0, 128, 0, 0], [-4, 127, 5, 0], [-6, 123, 12, -1], [-8, 118, 20, -2], [-9, 111, 29, -3], [-9, 102, 39, -4],
      [-9, 93, 50, -6], [-9, 83, 61, -7], [-8, 72, 72, -8], [-7, 61, 83, -9], [-6, 50, 93, -9], [-4, 39, 102, -9],
      [-3, 29, 111, -9], [-2, 20, 118, -8], [-1, 12, 123, -6], [0, 5, 127, -4]] ∧
  (∀ (s : State) (w h j k : Nat), fullArea s.feed.mode = (w, h) →
    (s.feed.state = .detached → s.outputPair j k = none ∧ s.outputFrame = []) ∧
    (s.feed.state ≠ .detached →
      (h ≤ j ∨ w / 2 ≤ k → s.outputPair j k = none) ∧
      s.outputFrame.map (fun line => line.map some) =
        (List.range h).map fun line => (List.range (w / 2)).map fun pair => s.outputPair line pair)) ∧
  ∀ (s : State) (w h j k : Nat) (a : Area) (view : Option Window) (col : Nat), s.feed.state ≠ .detached →
    fullArea s.feed.mode = (w, h) → j < h → k < w / 2 → InArea s (w / 2) k a view col →
    (a.showing = .blackState ∨ a.showing = .blackBlank ∨ a.showing = .blackNoFrame →
      s.outputPair j k = some { y0 := 0, cb := 128, y1 := 0, cr := 128 }) ∧
    (∀ (b : BufId) (win : Window), a.pin = some b → view = some win → win.d = 1 ∨ win.d = 2 →
      (a.showing = .picture → ∃ out : Pair, s.outputPair j k = some out ∧ ScaledPair s.mem b win j col out) ∧
      (∀ place : FaultPlace, a.showing = .blackFault → a.fault = some place →
        (j < place.line ∨ (j = place.line ∧ k < place.pair) →
          ∃ out : Pair, s.outputPair j k = some out ∧ ScaledPair s.mem b win j col out) ∧
        (place.line < j ∨ (j = place.line ∧ place.pair ≤ k) →
          s.outputPair j k = some { y0 := 0, cb := 128, y1 := 0, cr := 128 })))

/-! ### The intake unit, the light control unit and the motion meter -/

namespace Sys2Proof.Statements

/-- Luma sample `x` of a line of pixel pairs (R1, R17). -/
def lumaAt (line : List Pair) (x : Nat) : Nat :=
  let p := line.getD (x / 2) { y0 := 0, cb := 0, y1 := 0, cr := 0 }
  if x % 2 = 0 then p.y0.toNat else p.y1.toNat

/-- The 1, 2, 1 sum around sample `x`, the line's end samples standing in for the samples beyond it (R30). -/
def aroundAt (line : List Pair) (x : Nat) : Nat :=
  lumaAt line (x - 1) + 2 * lumaAt line x + lumaAt line (min (x + 1) 3839)

/-- The sharpened luma at sample `x` of line `own` between `above` and `below` (R30, R31). -/
def sharpenedAt (gain core : Nat) (above own below : List Pair) (x : Nat) : Int :=
  let blurred := (aroundAt above x + 2 * aroundAt own x + aroundAt below x + 8) / 16
  let detail : Int := (lumaAt own x : Int) - (blurred : Int)
  let cored : Int := if detail.natAbs ≤ core then 0 else if 0 < detail then detail - core else detail + core
  max 0 (min 255 ((lumaAt own x : Int) + ((gain : Int) * cored + 8) / 16))

/-- Line `y` of buffer `b` holds the sharpened line `own` in the pair layout, and every other byte is as before (R1, R21,
R30, R31). -/
def LineWritten (before after : List Host.Cell) (b : BufId) (y gain core : Nat) (above own below : List Pair) : Prop :=
  (∀ x : Nat, x < 3840 →
    ((Memory.read after (22118400 * b.val + 7680 * y + 2 * x)).toNat : Int) = sharpenedAt gain core above own below x) ∧
  (∀ (k : Nat) (p : Pair), own[k]? = some p →
    Memory.read after (22118400 * b.val + 7680 * y + 4 * k + 1) = p.cb ∧
    Memory.read after (22118400 * b.val + 7680 * y + 4 * k + 3) = p.cr) ∧
  (∀ a : Nat, a < 22118400 * b.val + 7680 * y ∨ 22118400 * b.val + 7680 * y + 7680 ≤ a →
    Memory.read after a = Memory.read before a)

/-- Gain and core that a profile names (R32). -/
def profileValues (params : Params) : Profile → Nat × Nat
  | .off => (0, 0)
  | .text => (40, 6)
  | .picture => (16, 2)
  | .custom => (params.clarityGain, params.clarityCore)

end Sys2Proof.Statements

/-- A sensor frame start numbers and times the frame, applies exposure, lamp and period, latches the profile, ends a frame
in hand, and takes a write buffer or skips the frame (R7, R18, R19, R20, R22, R32, R37, R38, R47, R48; the timer's advance
is the operand, log 3). -/
def Obligations.FrameStartNumbersAndTimesTheFrame : Prop :=
  ∀ (s : State) (elapsed now : Word) (interval : Option Word) (period onTime : Nat) (i0 started : Intake) (light : Light),
    now = s.timer + elapsed →
    i0 = (if s.intake.state = .receiving then malformedIntake s.intake else s.intake) →
    (s.intake.lastStart = none → interval = none) → (∀ w, s.intake.lastStart = some w → interval = some (now - w)) →
    (∀ w : Word, interval = some w → 20000 ≤ w.toNat ∧ w.toNat ≤ 200000 → period = w.toNat / 16) →
    ((interval = none ∨ ∃ w : Word, interval = some w ∧ (w.toNat < 20000 ∨ 200000 < w.toNat)) →
      period = s.light.period) →
    onTime = period * s.light.setLevel / 10 →
    light = { s.light with
      period := period, applied := s.light.setLevel, controlLine := s.light.e, onTime := onTime
      lampHigh := decide (0 < onTime), pulse := 0, trainTime := 0 } →
    started = { i0 with
      startCount := s.intake.startCount + 1, lastStart := some now, lastInterval := interval
      setExposure := s.light.e, setLamp := s.light.setLevel
      gain := (profileValues s.params s.intake.profile).1, core := (profileValues s.params s.intake.profile).2 } →
    (∀ b : BufId,
      FirstWith (fun x => (s.pool.bufRec x).pins = 0 ∧ ∀ info, ¬ NewestComplete s.pool x info) s.pool.ring b →
      exec (.sensorFrameStart elapsed) s = .next { s with
        timer := now, light := light
        pool := { s.pool.setRec b { s.pool.bufRec b with complete := none } with ring := b :: s.pool.ring.erase b }
        intake := { started with
          state := .receiving, writeBuffer := some b, lineCount := 0, pixelCount := 0, lineOpen := false, frameEnd := false
          sums := List.replicate 3072 0, above := [], held := [], incoming := [] } }) ∧
    ((∀ x ∈ s.pool.ring, (s.pool.bufRec x).pins ≠ 0 ∨ ∃ info, NewestComplete s.pool x info) →
      exec (.sensorFrameStart elapsed) s = .next { s with
        timer := now, light := light
        intake := { started with
          state := .seeking, writeBuffer := none, skipped := min 65535 (s.intake.skipped + 1) } })

/-- Line starts, pixel pairs and line ends in RECEIVING, and that SEEKING ignores them (R21, R25, R34); the received pairs and lines
kept for the filter are fields of the model's (log 25). -/
def Obligations.LinesAndPixelsAreCounted : Prop :=
  (∀ (s : State) (pair : Pair), s.intake.state = .seeking →
    exec .sensorLineStart s = .next s ∧ exec (.sensorPixelPair pair) s = .next s ∧ exec .sensorLineEnd s = .next s ∧
    exec .sensorFrameEnd s = .next s) ∧
  (∀ s : State, s.intake.state = .receiving → s.intake.lineOpen = false → s.intake.lineCount < 2880 →
    exec .sensorLineStart s =
      .next { s with intake := { s.intake with lineOpen := true, pixelCount := 0, incoming := [] } }) ∧
  (∀ (s : State) (pair : Pair), s.intake.state = .receiving → s.intake.lineOpen = true → s.intake.pixelCount + 2 ≤ 3840 →
    s.intake.sums.length = 3072 → s.intake.lineCount < 2880 →
    ∃ sums : List Nat, sums.length = 3072 ∧
      (∀ c : Nat, c < 3072 → sums.getD c 0 = s.intake.sums.getD c 0
        + (if c = s.intake.lineCount / 60 * 64 + s.intake.pixelCount / 60 then pair.y0.toNat else 0)
        + (if c = s.intake.lineCount / 60 * 64 + (s.intake.pixelCount + 1) / 60 then pair.y1.toNat else 0)) ∧
      exec (.sensorPixelPair pair) s = .next { s with intake := { s.intake with
        pixelCount := s.intake.pixelCount + 2, sums := sums, incoming := pair :: s.intake.incoming } }) ∧
  (∀ s : State, s.intake.state = .receiving → s.intake.lineOpen = true → s.intake.pixelCount = 3840 →
    s.intake.lineCount = 0 →
    exec .sensorLineEnd s = .next { s with intake := { s.intake with
      lineOpen := false, lineCount := 1, above := s.intake.incoming.reverse, held := s.intake.incoming.reverse
      incoming := [] } })

/-- A line end writes the sharpened line before the one received, and a frame end that completes the frame writes the last
line; nothing else of the frame memory changes (R1, R21, R25, R30, R31). The premise is the invariant of
`FrameMemoryStaysCanonical`; the received pairs and lines kept for the filter are fields of the model's (log 25). -/
def Obligations.LineEndAndFrameEndWriteTheSharpenedLine : Prop :=
  (∀ (s : State) (b : BufId) (y : Nat) (above own below : List Pair), s.memoryOk → s.intake.state = .receiving →
    s.intake.lineOpen = true → s.intake.pixelCount = 3840 → s.intake.lineCount = y + 1 → y ≤ 2878 →
    s.intake.writeBuffer = some b → s.intake.above = above → s.intake.held = own → s.intake.incoming = below.reverse →
    above.length = 1920 → own.length = 1920 → below.length = 1920 →
    ∃ m, exec .sensorLineEnd s = .next { s with
        mem := m
        intake := { s.intake with lineOpen := false, lineCount := y + 2, above := own, held := below, incoming := [] } } ∧
      LineWritten s.mem m b y s.intake.gain s.intake.core above own below) ∧
  (∀ (s : State) (b : BufId) (above own : List Pair), s.memoryOk → s.intake.state = .receiving → s.intake.lineOpen = false →
    s.intake.lineCount = 2880 → s.intake.frameEnd = false → s.intake.writeBuffer = some b → s.intake.above = above →
    s.intake.held = own → above.length = 1920 → own.length = 1920 →
    ∃ m, exec .sensorFrameEnd s = .next { s with mem := m, intake := { s.intake with frameEnd := true } } ∧
      LineWritten s.mem m b 2879 s.intake.gain s.intake.core above own own)

/-- The line, pixel, frame end and write fault causes that make a frame malformed, and a write fault report that concerns no frame in
hand (R22, R24; the working counts that stay are the model's, log 14, and so are the bytes a failed write leaves, log 30). Of the other two causes of R22, the frame start is in
`FrameStartNumbersAndTimesTheFrame` and the stall event in `StallEventReachesFourBlocks`. -/
def Obligations.MalformedFramesAreAbandoned : Prop :=
  ∀ s : State,
    (s.intake.state = .receiving →
      (∀ (pair : Pair), s.intake.lineOpen = false ∨ 3840 < s.intake.pixelCount + 2 →
        exec (.sensorPixelPair pair) s = .next { s with intake := malformedIntake s.intake }) ∧
      (s.intake.lineOpen = false ∨ s.intake.pixelCount ≠ 3840 →
        exec .sensorLineEnd s = .next { s with intake := malformedIntake s.intake }) ∧
      (s.intake.lineOpen = true ∨ 2880 ≤ s.intake.lineCount →
        exec .sensorLineStart s = .next { s with intake := malformedIntake s.intake }) ∧
      (s.intake.lineCount ≠ 2880 ∨ s.intake.lineOpen = true ∨ s.intake.frameEnd = true →
        exec .sensorFrameEnd s = .next { s with intake := malformedIntake s.intake }) ∧
      (∀ b : BufId, s.intake.writeBuffer = some b →
        exec (.intakeWriteFault b) s = .next { s with intake := malformedIntake s.intake })) ∧
    (∀ b : BufId, s.intake.state = .seeking ∨ s.intake.writeBuffer ≠ some b → exec (.intakeWriteFault b) s = .next s)

/-- A completion marks the buffer complete with its metadata and thumbnail, lifts a stall, and sends the frame report (R5,
R8, R25, R26, R29, R34, R42; the reports in transit and the mark of the one that ends a stall are the model's, logs 9 and 29). -/
def Obligations.CompletionMarksTheBufferAndReports : Prop :=
  ∀ (s : State) (b : BufId) (info : FrameMeta) (report : Report) (light : Light),
    s.intake.state = .receiving → s.intake.frameEnd = true → s.intake.writeBuffer = some b →
    info = { frame := s.intake.startCount, gain := s.intake.gain, core := s.intake.core, exposure := s.intake.setExposure
             lamp := s.intake.setLamp, thumb := s.intake.sums.map fun n => byte1 ((n + 1800) / 3600) } →
    report = { buffer := b, frame := s.intake.startCount, thumb := info.thumb } →
    light = { s.light with
      stalled := if s.intake.stalled then false else s.light.stalled
      e := if s.intake.stalled = true ∧ s.light.mode = .manual then s.light.manual else s.light.e
      reports := s.light.reports ++ [report] } →
    ∃ t, exec .frameCompletion s = .next t ∧
      t = { s with
        pool := { s.pool.setRec b { s.pool.bufRec b with complete := some info } with ring := s.pool.ring.erase b ++ [b] }
        light := light
        motion := { s.motion with reports := s.motion.reports ++ [{ report := report, endsStall := s.intake.stalled }] }
        intake := { s.intake with
          state := .seeking, stalled := false, writeBuffer := none, frameEnd := false, sinceCompletion := 0
          lastCompleted := s.intake.startCount, completed := true, above := [], held := [], incoming := [] }
        ports := t.ports } ∧
      t.ports = if s.intake.stalled then (s.postAll (.intakeResumed s.intake.startCount) none).ports else s.ports

/-- The count since the last completion at an output frame start, and the stall event it causes, alone and inside the output frame
start: its effects at the intake unit, the light control unit, the motion meter and the page store, with INTAKE_STALLED and one
CAPTURE_FAILED for each reservation, in slot order (R22, R27, R28, R42, R53, R129; what STALL_EVENT does by itself is the model's,
log 5, and so are that it does nothing where no stall is due, log 4, and the order of the blocks in an output frame start, log 6). -/
def Obligations.StallEventReachesFourBlocks : Prop :=
  (∀ s : State, StallDue s → ∃ t, exec .stallEvent s = .next t ∧ OutputFrameCounted s t) ∧
  (∀ s : State, ¬ StallDue s → exec .stallEvent s = .next s) ∧
  (∀ s : State, ∃ t begun, exec .outputFrameStart s = .next t ∧ CommittedAndBegun s begun ∧ OutputFrameCounted begun t ∧
    t.intake.sinceCompletion = min 255 (s.intake.sinceCompletion + 1) ∧
    (t.intake.stalled = true ↔
      s.intake.stalled = true ∨ s.params.stallLimit ≤ min 255 (s.intake.sinceCompletion + 1)) ∧
    (∀ (k : SlotId) (tag : PageTag) (after : Word),
      s.store.page k = .reserved tag after ↔ begun.store.page k = .reserved tag after) ∧
    (StallDue s →
      t.intake = { (if s.intake.state = .receiving then malformedIntake s.intake else s.intake) with
        stalled := true, sinceCompletion := min 255 (s.intake.sinceCompletion + 1) } ∧
      t.light = { s.light with stalled := true, darkRun := 0, brightRun := 0 } ∧
      t.motion = { s.motion with previous := none, score := none, detector := .watching, settle := 0 } ∧
      (∀ (k : SlotId) (tag : PageTag) (after : Word), s.store.page k = .reserved tag after → t.store.page k = .empty) ∧
      t.ports = stallNotices begun))

/-- SET_CLARITY, SET_EXPOSURE and SET_LAMP, case by case (R33, R42, R43, R45, R46, R104). -/
def Obligations.PictureRequestsSetTheirFields : Prop :=
  ∀ (s : State) (p : Port) (k : Fin 4) (q : Request), Holding s p →
    (∀ m : Byte, Hands s p k q 0x30 [m] →
      (3 < m → exec (.setClarity p) s = .next ((admitted s).reply p k q .badArgument [])) ∧
      (∀ profile : Profile, (m, profile) ∈ [((0 : Byte), Profile.off), (1, .text), (2, .picture), (3, .custom)] →
        exec (.setClarity p) s =
          .next (({ admitted s with intake := { s.intake with profile := profile } } : State).reply p k q .ok []))) ∧
    (∀ m a b : Byte, Hands s p k q 0x31 [m, a, b] →
      (2 < m → exec (.setExposure p) s = .next ((admitted s).reply p k q .badArgument [])) ∧
      (∀ mode : ExposureMode, (m = 0 ∧ mode = .auto) ∨ (m = 1 ∧ mode = .hold) →
        exec (.setExposure p) s = .next (({ admitted s with light := { s.light with
            mode := mode
            darkRun := if (s.light.mode = .auto) = (mode = .auto) then s.light.darkRun else 0
            brightRun := if (s.light.mode = .auto) = (mode = .auto) then s.light.brightRun else 0 } } : State).reply p k q .ok
          [byte1 s.light.e, byte1 s.light.manual])) ∧
      (m = 2 → ∀ value e : Nat, (value : Int) = max 0 (min 255 (a ++ b : BitVec 16).toInt) →
        e = (if s.light.stalled then s.light.e else value) →
        exec (.setExposure p) s = .next (({ admitted s with light := { s.light with
            mode := .manual, manual := value, e := e
            darkRun := if s.light.mode = .auto then 0 else s.light.darkRun
            brightRun := if s.light.mode = .auto then 0 else s.light.brightRun } } : State).reply p k q .ok
          [byte1 e, byte1 value]))) ∧
    (∀ l a : Byte, Hands s p k q 0x32 [l, a] →
      (1 < a → exec (.setLamp p) s = .next ((admitted s).reply p k q .badArgument [])) ∧
      (a ≤ 1 → ∀ level : Nat, level = min 10 l.toNat → ∀ same : Bool,
        same = (decide (level = s.light.setLevel) && decide (s.light.auto = decide (a = 1))) →
        exec (.setLamp p) s = .next (({ admitted s with light := { s.light with
            setLevel := level, auto := decide (a = 1)
            darkRun := if same then s.light.darkRun else 0
            brightRun := if same then s.light.brightRun else 0 } } : State).reply p k q .ok [byte1 level])))

/-- A frame report at the light control unit: the meter over the active camera window, the exposure step, auto lamp, and the
modes and stalls that leave them out; AUTO_LAMP_STEP is the report that moves the set level (R39, R40, R42, R46; what
AUTO_LAMP_STEP does by itself is the model's, log 5, and so are the reports in transit, log 9). -/
def Obligations.LightReportMetersAndSteps : Prop :=
  ∀ (s : State) (r : Report) (rest : List Report), s.light.reports = r :: rest →
    (s.light.stalled = true → exec .lightFrameReport s =
      .next { s with light := { s.light with darkRun := 0, brightRun := 0, reports := rest } }) ∧
    (s.light.stalled = false → s.light.mode ≠ .auto → exec .lightFrameReport s =
      .next { s with light := { s.light with darkRun := 0, brightRun := 0, reports := rest } }) ∧
    (s.light.stalled = false → s.light.mode = .auto →
      0 < s.view.camera.w → s.view.camera.x0 + s.view.camera.w ≤ 3840 →
      0 < s.view.camera.h → s.view.camera.y0 + s.view.camera.h ≤ 2880 → r.thumb.length = 3072 →
      ∀ (c0 c1 r0 r1 n mean e dark bright level : Nat) (step : Int),
        c0 = s.view.camera.x0 / 60 → c1 = (s.view.camera.x0 + s.view.camera.w - 1) / 60 →
        r0 = s.view.camera.y0 / 60 → r1 = (s.view.camera.y0 + s.view.camera.h - 1) / 60 →
        n = (c1 + 1 - c0) * (r1 + 1 - r0) →
        mean = ((((List.range 3072).filter fun c =>
            decide (c0 ≤ c % 64 ∧ c % 64 ≤ c1 ∧ r0 ≤ c / 64 ∧ c / 64 ≤ r1)).map fun c => (r.thumb.getD c 0).toNat).sum) / n →
        step = (if ((s.params.exposureTarget : Int) - mean).natAbs ≤ s.params.exposureDeadband then 0
          else max (-4) (min 4 (((s.params.exposureTarget : Int) - mean).tdiv 8))) →
        (e : Int) = max 0 (min 255 ((s.light.e : Int) + step)) →
        (dark, bright, level) =
          (if s.light.auto = true ∧ e = 255 ∧ s.light.setLevel < 10 then
            (if 30 ≤ s.light.darkRun + 1 then (0, 0, s.light.setLevel + 1) else (s.light.darkRun + 1, 0, s.light.setLevel))
          else if s.light.auto = true ∧ e = 0 ∧ 1 < s.light.setLevel then
            (if 30 ≤ s.light.brightRun + 1 then (0, 0, s.light.setLevel - 1) else (0, s.light.brightRun + 1, s.light.setLevel))
          else (0, 0, s.light.setLevel)) →
        exec .lightFrameReport s = .next { s with light := { s.light with
          e := e, last := some { mean := mean, cells := n }, darkRun := dark, brightRun := bright, setLevel := level
          reports := rest } } ∧
        (level ≠ s.light.setLevel → exec .autoLampStep s = exec .lightFrameReport s))

/-- A frame report at the motion meter: the score, the detector's move and the fire mark, and the report passed on; the report that
ends a stall, and the first one, has no score; DETECTOR_FIRE is the report that fires (R29, R49, R50, R52, R53; what DETECTOR_FIRE
does by itself is the model's, log 5, and so are the reports in transit, log 9, and that a report completed before a stall and taken
after it is scored as any other, log 29). -/
def Obligations.MotionReportMovesTheDetector : Prop :=
  ∀ (s : State) (r : Report) (ends : Bool) (rest : List MeterReport),
    s.motion.reports = { report := r, endsStall := ends } :: rest →
    (ends = true ∨ s.motion.previous = none → exec .motionFrameReport s = .next { s with
      motion := { s.motion with previous := some r.thumb, reports := rest }
      store := { s.store with reports := s.store.reports ++ [{ report := r, fire := false }] } }) ∧
    (∀ (before : List Byte) (m : Nat) (next : Detector) (settle : Nat) (fire : Bool), ends = false →
      s.motion.previous = some before → before.length = 3072 → r.thumb.length = 3072 →
      m = ((List.range 3072).map fun c =>
        (((r.thumb.getD c 0).toNat : Int) - ((before.getD c 0).toNat : Int)).natAbs).sum / 3072 →
      ((s.motion.detector = .watching ∧ s.params.motionHigh ≤ m ∧ next = .moving ∧ settle = 0 ∧ fire = false) ∨
        (s.motion.detector = .watching ∧ m < s.params.motionHigh ∧ next = .watching ∧ settle = 0 ∧ fire = false) ∨
        (s.motion.detector = .moving ∧ s.params.motionLow ≤ m ∧ next = .moving ∧ settle = 0 ∧ fire = false) ∨
        (s.motion.detector = .moving ∧ m < s.params.motionLow ∧ 1 < s.params.settleFrames ∧ next = .settling ∧ settle = 1 ∧
          fire = false) ∨
        (s.motion.detector = .moving ∧ m < s.params.motionLow ∧ s.params.settleFrames ≤ 1 ∧ next = .watching ∧ settle = 0 ∧
          fire = true) ∨
        (s.motion.detector = .settling ∧ s.params.motionLow ≤ m ∧ next = .moving ∧ settle = 0 ∧ fire = false) ∨
        (s.motion.detector = .settling ∧ m < s.params.motionLow ∧ s.motion.settle + 1 < s.params.settleFrames ∧
          next = .settling ∧ settle = s.motion.settle + 1 ∧ fire = false) ∨
        (s.motion.detector = .settling ∧ m < s.params.motionLow ∧ s.params.settleFrames ≤ s.motion.settle + 1 ∧
          next = .watching ∧ settle = 0 ∧ fire = true)) →
      exec .motionFrameReport s = .next { s with
        motion := { s.motion with
          previous := some r.thumb, score := some m, detector := next, settle := settle, reports := rest }
        store := { s.store with reports := s.store.reports ++ [{ report := r, fire := fire }] } } ∧
      (fire = true → exec .detectorFire s = exec .motionFrameReport s))

/-! ### The page store -/

namespace Sys2Proof.Statements

/-- `n` is the serial drawn next: counting from the last serial plus 1, with 1 after 65535, the first value that no record
holds (R122). -/
def SerialDrawn (st : Store) (n : Nat) : Prop :=
  ∃ steps : Nat, n = (st.lastSerial + steps) % 65535 + 1 ∧ (∀ k : SlotId, (st.page k).serial? ≠ some n) ∧
    ∀ i : Nat, i < steps → ∃ k : SlotId, (st.page k).serial? = some ((st.lastSerial + i) % 65535 + 1)

/-- `k` is the lowest-numbered EMPTY record (R124). -/
def LowestEmpty (st : Store) (k : SlotId) : Prop := st.page k = .empty ∧ ∀ j : SlotId, j < k → st.page j ≠ .empty

/-- The state after a page is stored in slot `k` from buffer `b`, before its entry: its record, the store list, and PAGE_STORED to
every port but the one left out (R123, R125, R126). -/
def pageRecordedIn (s : State) (k : SlotId) (tag : PageTag) (b : BufId) (info : FrameMeta) (left : Option Port) : State :=
  let record : PageRec := .stored tag
    { lesson := if s.lesson.state = .running ∨ s.lesson.state = .paused then
          some { number := s.lesson.number, time := s.lesson.time } else none
      zoom := s.view.zoom, x0 := s.view.camera.x0, y0 := s.view.camera.y0, w := s.view.camera.w, h := s.view.camera.h
      frame := info.frame, gain := info.gain, core := info.core, exposure := info.exposure, lamp := info.lamp
      thumb := info.thumb, exported := false, buffer := b }
  ({ s with store := { s.store.setPage k record with list := s.store.list ++ [k] } } : State).postAll
    (.pageStored k tag.serial tag.origin tag.trigger info.frame) left

/-- The PAGE_CAPTURED entry of a page stored now (R126). -/
def capturedEntry (s : State) (k : SlotId) (tag : PageTag) : Offer :=
  { kind := .pageCaptured
    port := match tag.origin with
      | .auto => none
      | .port p => some p
    page := some { slot := k, serial := tag.serial }
    view := some { zoom := s.view.zoom, cx := s.view.camera.x0 + s.view.camera.w / 2
                   cy := s.view.camera.y0 + s.view.camera.h / 2 }
    extra := tag.trigger.code }

/-- The state after a page is stored and its entry offered (R123, R125, R126). -/
def pageStoredIn (s : State) (k : SlotId) (tag : PageTag) (b : BufId) (info : FrameMeta) (left : Option Port) : State :=
  let u := pageRecordedIn s k tag b info left
  { u with timeline := u.timeline.offer s.lesson.state s.lesson.time (capturedEntry s k tag) }

/-- The CAPTURE_SKIPPED entry (R133). -/
def skippedEntry (trigger : Trigger) (cause : SkipCause) : Offer :=
  { kind := .captureSkipped, port := none, page := none, view := none, extra := 256 * trigger.code + cause.code }

/-- The state after a skipped capture: the notice and the entry (R133). -/
def captureSkippedIn (s : State) (trigger : Trigger) (cause : SkipCause) (frame : Word) : State :=
  let u := s.postAll (.captureSkipped trigger cause frame) none
  { u with timeline := u.timeline.offer s.lesson.state s.lesson.time (skippedEntry trigger cause) }

/-- The report's frame is alike to the newest stored page (R123, R132). -/
def AlikeToNewest (s : State) (thumb : List Byte) : Prop :=
  ∃ (k : SlotId) (tag : PageTag) (d : PageData), s.store.list.getLast? = some k ∧ s.store.page k = .stored tag d ∧
    (List.zipWith (fun a b : Byte => ((a.toNat : Int) - (b.toNat : Int)).natAbs) thumb d.thumb).sum / 3072
      < s.params.duplicateLimit

/-- A report does not fill a reservation with this after-frame: its frame does not follow it, or its buffer cannot be taken (R9,
R128). -/
def LeavesReserved (s : State) (r : Report) (after : Word) : Prop :=
  (r.frame - after).toNat = 0 ∨ 2147483647 < (r.frame - after).toNat ∨ s.pool.ring.length ≤ 2 ∨
    (s.pool.bufRec r.buffer).role ≠ .ring ∨ ∀ info, (s.pool.bufRec r.buffer).complete = some info → info.frame ≠ r.frame

/-- The state in which a report at the page store has been taken from the reports in transit (log 9). -/
def reportTaken (s : State) (rest : List StoreReport) : State := { s with store := { s.store with reports := rest } }

/-- `captured` is the state after the timed capture in `s`, before its entry: the page is stored, or the capture is skipped with its
notice, case by case (R130, R133). -/
def TimedCaptured (s captured : State) : Prop :=
  ((∀ j : SlotId, s.store.page j ≠ .empty) ∧ captured = s.postAll (.captureSkipped .timed .storeFull 0) none) ∨
  ∃ (j : SlotId) (serial : Nat), LowestEmpty s.store j ∧ SerialDrawn s.store serial ∧
    (((∀ x ∈ s.pool.ring, (s.pool.bufRec x).complete = none) ∧
        captured = s.postAll (.captureSkipped .timed .noPicture 0) none) ∨
      ∃ (b : BufId) (info : FrameMeta), NewestComplete s.pool b info ∧
        ((s.pool.ring.length ≤ 2 ∧ captured = s.postAll (.captureSkipped .timed .busy 0) none) ∨
          ∃ pool : Pool, Taken s.pool b .page pool ∧ captured = pageRecordedIn
            { s with pool := pool, store := { s.store with lastSerial := serial } } j
            { serial := serial, origin := .auto, trigger := .timed, label := [] } b info none))

end Sys2Proof.Statements

/-- CAPTURE with NOW and NEXT, case by case (R120, R122, R124, R125, R126, R127; which of the two commands answers a CAPTURE
whose first argument is neither is the model's, log 8). -/
def Obligations.CaptureStoresOrReserves : Prop :=
  ∀ (s : State) (p : Port) (k : Fin 4) (q : Request) (w : Byte) (text : List Byte), Hands s p k q 0x40 (w :: text) →
    text.length ≤ 27 → ∀ (c : Instr), (w = 0 ∧ c = .captureNow p) ∨ (w = 1 ∧ c = .captureNext p) ∨
      (1 < w ∧ (c = .captureNow p ∨ c = .captureNext p)) →
    (1 < w ∨ (∃ b ∈ text, b < 0x20 ∨ 0x7E < b) → exec c s = .next (s.reply p k q .badArgument [])) ∧
    (w ≤ 1 → (∀ b ∈ text, 0x20 ≤ b ∧ b ≤ 0x7E) →
      ((∀ j : SlotId, s.store.page j ≠ .empty) → exec c s = .next (s.reply p k q .storeFull [])) ∧
      (∀ (j : SlotId) (serial : Nat) (tag : PageTag), LowestEmpty s.store j → SerialDrawn s.store serial →
        tag = { serial := serial, origin := .port p, trigger := .manual, label := text.take 24 } →
        (w = 0 → (∀ x ∈ s.pool.ring, (s.pool.bufRec x).complete = none) →
          exec c s = .next (s.reply p k q .noPicture [])) ∧
        (w = 0 → ∀ (b : BufId) (info : FrameMeta), NewestComplete s.pool b info →
          (s.pool.ring.length ≤ 2 → exec c s = .next (s.reply p k q .tryAgain [])) ∧
          (∀ after : Pool, Taken s.pool b .page after →
            exec c s = .next ((pageStoredIn { s with pool := after, store := { s.store with lastSerial := serial } } j tag b
              info (some p)).reply p k q .ok ([byte1 j.val] ++ be16 serial ++ be32 info.frame.toNat)))) ∧
        (w = 1 → exec c s = .next (({ s with store := { s.store.setPage j (.reserved tag s.intake.startCount) with
            lastSerial := serial } } : State).reply p k q .accepted
          ([byte1 j.val] ++ be16 serial ++ be32 s.intake.startCount.toNat)))))

/-- A frame report at the page store: it fills the lowest reservation it follows and leaves the others; then a fired report makes
a page-turn capture or is skipped, case by case, also while reservations stand that it does not fill, and after it has filled one,
whose page it is then compared with; without the mark, the parameter or a running lesson it ends there (R9, R125, R126, R128, R131,
R132, R133; the reports in transit are the model's, log 9). -/
def Obligations.FrameReportFillsOrCaptures : Prop :=
  (∀ (s : State) (r : Report) (fire : Bool) (rest : List StoreReport) (k : SlotId) (tag : PageTag) (after : Word),
    s.store.reports = { report := r, fire := fire } :: rest →
    (fire = false ∨ s.params.pageTurnCapture = false ∨ s.lesson.state ≠ .running) →
    s.store.page k = .reserved tag after → (∀ j : SlotId, j < k → ∀ g a, s.store.page j = .reserved g a →
      (r.frame - a).toNat = 0 ∨ 2147483647 < (r.frame - a).toNat) →
    ((r.frame - after).toNat = 0 ∨ 2147483647 < (r.frame - after).toNat →
      (∀ j : SlotId, k < j → ∀ g a, s.store.page j ≠ .reserved g a) →
      exec .pageStoreFrameReport s = .next (reportTaken s rest)) ∧
    (1 ≤ (r.frame - after).toNat → (r.frame - after).toNat ≤ 2147483647 →
      (∀ (info : FrameMeta) (pool : Pool), (s.pool.bufRec r.buffer).role = .ring →
        (s.pool.bufRec r.buffer).complete = some info → info.frame = r.frame → Taken s.pool r.buffer .page pool →
        exec .pageStoreFrameReport s =
          .next (pageStoredIn { reportTaken s rest with pool := pool } k tag r.buffer info none)) ∧
      ((s.pool.ring.length ≤ 2 ∨ (s.pool.bufRec r.buffer).role ≠ .ring ∨
          ∀ info, (s.pool.bufRec r.buffer).complete = some info → info.frame ≠ r.frame) →
        exec .pageStoreFrameReport s = .next (reportTaken s rest)))) ∧
  (∀ (s : State) (r : Report) (fire : Bool) (rest : List StoreReport),
    s.store.reports = { report := r, fire := fire } :: rest →
    (∀ (j : SlotId) (g : PageTag) (a : Word), s.store.page j = .reserved g a → LeavesReserved s r a) →
    ((fire = false ∨ s.params.pageTurnCapture = false ∨ s.lesson.state ≠ .running) →
      exec .pageStoreFrameReport s = .next (reportTaken s rest)) ∧
    (fire = true → s.params.pageTurnCapture = true → s.lesson.state = .running →
      (AlikeToNewest s r.thumb →
        exec .pageStoreFrameReport s = .next (captureSkippedIn (reportTaken s rest) .pageTurn .duplicate r.frame)) ∧
      (¬ AlikeToNewest s r.thumb →
        ((∀ j : SlotId, s.store.page j ≠ .empty) →
          exec .pageStoreFrameReport s = .next (captureSkippedIn (reportTaken s rest) .pageTurn .storeFull r.frame)) ∧
        (∀ (j : SlotId) (serial : Nat), LowestEmpty s.store j → SerialDrawn s.store serial →
          ((s.pool.bufRec r.buffer).role ≠ .ring ∨ (∀ info, (s.pool.bufRec r.buffer).complete = some info →
              info.frame ≠ r.frame) →
            exec .pageStoreFrameReport s = .next (captureSkippedIn (reportTaken s rest) .pageTurn .gone r.frame)) ∧
          (∀ info : FrameMeta, (s.pool.bufRec r.buffer).role = .ring → (s.pool.bufRec r.buffer).complete = some info →
            info.frame = r.frame →
            (s.pool.ring.length ≤ 2 →
              exec .pageStoreFrameReport s = .next (captureSkippedIn (reportTaken s rest) .pageTurn .busy r.frame)) ∧
            (∀ pool : Pool, Taken s.pool r.buffer .page pool →
              exec .pageStoreFrameReport s = .next (pageStoredIn
                { s with pool := pool, store := { s.store with reports := rest, lastSerial := serial } } j
                { serial := serial, origin := .auto, trigger := .pageTurn, label := [] } r.buffer info none))))))) ∧
  (∀ (s filled : State) (r : Report) (rest : List StoreReport) (k : SlotId) (tag : PageTag) (after : Word) (info : FrameMeta)
      (pool : Pool),
    s.store.reports = { report := r, fire := true } :: rest → s.params.pageTurnCapture = true → s.lesson.state = .running →
    s.store.page k = .reserved tag after → 1 ≤ (r.frame - after).toNat → (r.frame - after).toNat ≤ 2147483647 →
    (∀ j : SlotId, j < k → ∀ g a, s.store.page j = .reserved g a →
      (r.frame - a).toNat = 0 ∨ 2147483647 < (r.frame - a).toNat) →
    (s.pool.bufRec r.buffer).role = .ring → (s.pool.bufRec r.buffer).complete = some info → info.frame = r.frame →
    Taken s.pool r.buffer .page pool → filled = pageStoredIn { reportTaken s rest with pool := pool } k tag r.buffer info none →
    (info.thumb = r.thumb → 1 ≤ s.params.duplicateLimit →
      exec .pageStoreFrameReport s = .next (captureSkippedIn filled .pageTurn .duplicate r.frame)) ∧
    (AlikeToNewest filled r.thumb →
      exec .pageStoreFrameReport s = .next (captureSkippedIn filled .pageTurn .duplicate r.frame)) ∧
    (¬ AlikeToNewest filled r.thumb →
      ((∀ j : SlotId, s.store.page j ≠ .empty) →
        exec .pageStoreFrameReport s = .next (captureSkippedIn filled .pageTurn .storeFull r.frame)) ∧
      (∀ j : SlotId, s.store.page j = .empty →
        exec .pageStoreFrameReport s = .next (captureSkippedIn filled .pageTurn .gone r.frame))))

/-- A timed capture at the expiry of the counter, case by case; TIMED_CAPTURE_EXPIRY is the lesson second at which it expires, which
a lesson held at 23:59:59.99 does not have; a LESSON_PAUSE that comes between the capture and its entry leaves the page with its
lesson tags and drops the entry (R125, R126, R130, R133, R147, R151, R153, R159; what TIMED_CAPTURE_EXPIRY does by itself is the
model's, log 5, and so is its operand, log 17). -/
def Obligations.TimedCaptureStoresOrSkips : Prop :=
  (∀ (s : State) (pause : Option Port),
    s.lesson.state ≠ .running ∨ s.lesson.time = 8639999 ∨ s.params.timedInterval = 0 ∨
      s.lesson.timed + 1 < s.params.timedInterval →
    exec (.timedCaptureExpiry pause) s = .next s) ∧
  ∀ (s expired : State), s.lesson.state = .running → s.lesson.time < 8639999 → s.params.timedInterval ≠ 0 →
    s.params.timedInterval ≤ s.lesson.timed + 1 → expired = { s with lesson := { s.lesson with timed := 0 } } →
    ((∀ j : SlotId, s.store.page j ≠ .empty) →
      exec (.timedCaptureExpiry none) s = .next (captureSkippedIn expired .timed .storeFull 0)) ∧
    (∀ (j : SlotId) (serial : Nat), LowestEmpty s.store j → SerialDrawn s.store serial →
      ((∀ x ∈ s.pool.ring, (s.pool.bufRec x).complete = none) →
        exec (.timedCaptureExpiry none) s = .next (captureSkippedIn expired .timed .noPicture 0)) ∧
      (∀ (b : BufId) (info : FrameMeta), NewestComplete s.pool b info →
        (s.pool.ring.length ≤ 2 → exec (.timedCaptureExpiry none) s = .next (captureSkippedIn expired .timed .busy 0)) ∧
        (∀ pool : Pool, Taken s.pool b .page pool →
          exec (.timedCaptureExpiry none) s = .next (pageStoredIn
            { expired with pool := pool, store := { s.store with lastSerial := serial } } j
            { serial := serial, origin := .auto, trigger := .timed, label := [] } b info none)))) ∧
    (∀ p : Port, (∀ k q, (s.port p).current = some (k, q) → q.code ≠ 0x51) →
      exec (.timedCaptureExpiry (some p)) s = exec (.timedCaptureExpiry none) s) ∧
    (∀ (p : Port) (k : Fin 4) (q : Request) (captured : State), Hands s p k q 0x51 [] → TimedCaptured expired captured →
      exec (.timedCaptureExpiry (some p)) s = .next
        ((lessonChanged captured { captured.lesson with state := .paused } .pause p .lessonPaused 0).reply p k q .ok
          (lessonReply { captured.lesson with state := .paused })))

/-- DISCARD and LABEL, case by case (R11, R59, R123, R129, R134, R136). -/
def Obligations.DiscardAndLabelChangeTheRecord : Prop :=
  (∀ (s : State) (p : Port) (k : Fin 4) (q : Request) (slot a b : Byte) (serial : Nat), Hands s p k q 0x41 [slot, a, b] →
    serial = 256 * a.toNat + b.toNat →
    (20 ≤ slot → exec (.discard p) s = .next (s.reply p k q .noPage [])) ∧
    (∀ j : SlotId, slot.toNat = j.val →
      (s.store.page j = .empty ∨ (s.store.page j).serial? ≠ some serial ∨
          (∃ (tag : PageTag) (d : PageData) (by_ : Port), s.store.page j = .discarding tag d by_) →
        exec (.discard p) s = .next (s.reply p k q .noPage [])) ∧
      (∀ (tag : PageTag) (after : Word), s.store.page j = .reserved tag after → tag.serial = serial →
        exec (.discard p) s = .next ((({ s with store := s.store.setPage j .empty } : State).postAll
          (.captureFailed j serial tag.origin .cancelled) (some p)).reply p k q .ok [0])) ∧
      (∀ (tag : PageTag) (d : PageData) (offered : Nat → Timeline), s.store.page j = .stored tag d → tag.serial = serial →
        (∀ extra, offered extra = s.timeline.offer s.lesson.state s.lesson.time
          { kind := .pageDiscarded, port := some p, page := some { slot := j, serial := serial }, view := none
            extra := extra }) →
        ((∃ v ∈ [s.view.staged, s.view.active], v.source ≠ .camera ∧ v.page = some { slot := j, serial := serial }) →
          exec (.discard p) s = .next (s.reply p k q .inView [])) ∧
        ((∀ v ∈ [s.view.staged, s.view.active], v.source = .camera ∨ v.page ≠ some { slot := j, serial := serial }) →
          (1 ≤ (s.pool.bufRec d.buffer).pins →
            exec (.discard p) s = .next (({ s with
              store := { s.store.setPage j (.discarding tag d p) with list := s.store.list.filter fun x => decide (x ≠ j) }
              timeline := offered 1 } : State).reply p k q .ok [3])) ∧
          ((s.pool.bufRec d.buffer).pins = 0 → 3 ≤ s.pool.ring.length →
            exec (.discard p) s = .next ((({ s with
              store := { s.store.setPage j .empty with list := s.store.list.filter fun x => decide (x ≠ j) }
              pool := s.pool.setRec d.buffer { role := .free, pins := 0, complete := none }
              timeline := offered 0 } : State).postAll (.pageDiscarded j serial p) (some p)).reply p k q .ok [0])) ∧
          ((s.pool.bufRec d.buffer).pins = 0 → s.pool.ring.length < 3 →
            exec (.discard p) s = .next ((({ s with
              store := { s.store.setPage j .empty with list := s.store.list.filter fun x => decide (x ≠ j) }
              pool := { s.pool.setRec d.buffer { role := .ring, pins := 0, complete := none } with
                ring := d.buffer :: s.pool.ring }
              timeline := offered 0 } : State).postAll (.pageDiscarded j serial p) (some p)).reply p k q .ok [0])))))) ∧
  (∀ (s : State) (p : Port) (k : Fin 4) (q : Request) (slot a b : Byte) (text : List Byte) (serial : Nat),
    Hands s p k q 0x42 (slot :: a :: b :: text) → text.length ≤ 25 → serial = 256 * a.toNat + b.toNat →
    ((∃ b ∈ text, b < 0x20 ∨ 0x7E < b) → exec (.label p) s = .next (s.reply p k q .badArgument [])) ∧
    ((∀ b ∈ text, 0x20 ≤ b ∧ b ≤ 0x7E) →
      (20 ≤ slot → exec (.label p) s = .next (s.reply p k q .noPage [])) ∧
      (∀ j : SlotId, slot.toNat = j.val →
        (s.store.page j = .empty ∨ (s.store.page j).serial? ≠ some serial ∨
            (∃ (tag : PageTag) (d : PageData) (by_ : Port), s.store.page j = .discarding tag d by_) →
          exec (.label p) s = .next (s.reply p k q .noPage [])) ∧
        (∀ (tag : PageTag) (record : PageRec), tag.serial = serial →
          ((∃ after, s.store.page j = .reserved tag after ∧
              record = .reserved { tag with label := text.take 24 } after) ∨
            (∃ d, s.store.page j = .stored tag d ∧ record = .stored { tag with label := text.take 24 } d)) →
          exec (.label p) s = .next (({ s with store := s.store.setPage j record } : State).reply p k q .ok
            [byte1 (min 24 text.length)])))))

/-- PAGE_READ and THUMB_READ, case by case (R137, R138, R196). -/
def Obligations.PageReadsReportTheRecord : Prop :=
  ∀ (s : State) (p : Port) (k : Fin 4) (q : Request),
    (∀ slot : Byte, Hands s p k q 0x43 [slot] →
      (20 ≤ slot → exec (.pageRead p) s = .next (s.reply p k q .badArgument [])) ∧
      (∀ (j : SlotId) (head : PageTag → List Byte) (data : PageData → List Byte) (label : PageTag → List Byte),
        slot.toNat = j.val →
        (∀ t : PageTag, head t = be16 t.serial ++ [byte1 t.origin.code, byte1 t.trigger.code]) →
        (∀ t : PageTag, label t = [byte1 t.label.length] ++ t.label) →
        (∀ d : PageData, data d = (match d.lesson with
            | some l => [1] ++ be16 l.number ++ be32 l.time
            | none => [0, 0, 0, 0, 0, 0, 0])
          ++ be16 d.zoom ++ be16 d.x0 ++ be16 d.y0 ++ be16 d.w ++ be16 d.h ++ be32 d.frame.toNat
          ++ [byte1 d.gain, byte1 d.core, byte1 d.exposure, byte1 d.lamp, flag1 d.exported, byte1 d.buffer.val,
              byte1 (s.pool.bufRec d.buffer).pins]) →
        (s.store.page j = .empty →
          exec (.pageRead p) s = .next (s.reply p k q .ok ([slot, 0] ++ List.replicate 33 0))) ∧
        (∀ (t : PageTag) (after : Word), s.store.page j = .reserved t after →
          exec (.pageRead p) s = .next (s.reply p k q .ok
            ([slot, 1] ++ head t ++ List.replicate 17 0 ++ be32 after.toNat ++ List.replicate 7 0 ++ label t))) ∧
        (∀ (t : PageTag) (d : PageData), s.store.page j = .stored t d →
          exec (.pageRead p) s = .next (s.reply p k q .ok ([slot, 2] ++ head t ++ data d ++ label t))) ∧
        (∀ (t : PageTag) (d : PageData) (by_ : Port), s.store.page j = .discarding t d by_ →
          exec (.pageRead p) s = .next (s.reply p k q .ok ([slot, 3] ++ head t ++ data d ++ label t))))) ∧
    (∀ slot row : Byte, Hands s p k q 0x44 [slot, row] →
      (47 < row ∨ (20 ≤ slot ∧ slot < 255) → exec (.thumbRead p) s = .next (s.reply p k q .badArgument [])) ∧
      (row ≤ 47 → slot = 255 →
        ((∀ x ∈ s.pool.ring, (s.pool.bufRec x).complete = none) →
          exec (.thumbRead p) s = .next (s.reply p k q .noPicture [])) ∧
        (∀ (b : BufId) (info : FrameMeta), NewestComplete s.pool b info →
          exec (.thumbRead p) s = .next (s.reply p k q .ok ((info.thumb.drop (64 * row.toNat)).take 64)))) ∧
      (row ≤ 47 → ∀ j : SlotId, slot.toNat = j.val →
        (∀ (t : PageTag) (d : PageData), s.store.page j = .stored t d →
          exec (.thumbRead p) s = .next (s.reply p k q .ok ((d.thumb.drop (64 * row.toNat)).take 64))) ∧
        ((∀ (t : PageTag) (d : PageData), s.store.page j ≠ .stored t d) →
          exec (.thumbRead p) s = .next (s.reply p k q .noPage []))))


/-! ### The lesson clock and the timeline -/

/-- LESSON_START, LESSON_PAUSE, LESSON_RESUME, LESSON_END and LESSON_CLEAR in every lesson state (R145, R146, R147, R148, R149,
R158). -/
def Obligations.LessonRequestsChangeTheState : Prop :=
  ∀ (s : State) (p : Port) (k : Fin 4) (q : Request), s.lesson.number ≤ 65535 →
    (Hands s p k q 0x50 [] → ∀ (n : Nat) (l : Lesson), n = (if s.lesson.number = 65535 then 1 else s.lesson.number + 1) →
      l = { state := .running, number := n, hundredths := 0, seconds := 0, minutes := 0, hours := 0, ticks := 0
            timed := 0 } →
      (s.lesson.state = .idle → exec (.lessonStart p) s = .next
        ((lessonChanged s l .start p .lessonStarted n).reply p k q .ok (lessonReply l))) ∧
      (s.lesson.state ≠ .idle → exec (.lessonStart p) s = .next (s.reply p k q .wrongState (lessonReply s.lesson)))) ∧
    (Hands s p k q 0x51 [] → ∀ l : Lesson, l = { s.lesson with state := .paused } →
      (s.lesson.state = .running → exec (.lessonPause p) s = .next
        ((lessonChanged s l .pause p .lessonPaused 0).reply p k q .ok (lessonReply l))) ∧
      (s.lesson.state ≠ .running → exec (.lessonPause p) s = .next
        (s.reply p k q .wrongState (lessonReply s.lesson)))) ∧
    (Hands s p k q 0x52 [] → ∀ l : Lesson, l = { s.lesson with state := .running } →
      (s.lesson.state = .paused → exec (.lessonResume p) s = .next
        ((lessonChanged s l .resume p .lessonResumed 0).reply p k q .ok (lessonReply l))) ∧
      (s.lesson.state ≠ .paused → exec (.lessonResume p) s = .next
        (s.reply p k q .wrongState (lessonReply s.lesson)))) ∧
    (Hands s p k q 0x53 [] → ∀ l : Lesson, l = { s.lesson with state := .closing } →
      (s.lesson.state = .running ∨ s.lesson.state = .paused → exec (.lessonEnd p) s = .next
        ((lessonChanged s l .end_ p .lessonEnded s.lesson.number).reply p k q .ok (lessonReply l))) ∧
      (s.lesson.state = .idle ∨ s.lesson.state = .closing → exec (.lessonEnd p) s = .next
        (s.reply p k q .wrongState (lessonReply s.lesson)))) ∧
    (Hands s p k q 0x54 [] → ∀ l : Lesson, l = { s.lesson with state := .idle } →
      (s.lesson.state = .closing → exec (.lessonClear p) s = .next
        ((({ s with lesson := l, timeline := { s.timeline with entries := [], gap := 0 } } : State).postAll
          (.lessonState .idle .closing l.number l.time .clear) none).reply p k q .ok (lessonReply l))) ∧
      (s.lesson.state ≠ .closing → exec (.lessonClear p) s = .next
        (s.reply p k q .wrongState (lessonReply s.lesson))))

/-- The lesson clock at a millisecond tick: it counts ten ticks of RUNNING to a centisecond, carries through its chain, counts
the lesson seconds for timed capture, and holds at 23:59:59.99; CLOCK_CENTISECOND is the tick that completes a centisecond
(R143, R144, R151; what CLOCK_CENTISECOND does by itself is the model's, log 5, and so is the operand of a LESSON_PAUSE that meets a
timed capture, log 17). -/
def Obligations.LessonClockCountsTime : Prop :=
  ∀ (s : State) (pause : Option Port), s.clockOk →
    (s.lesson.state ≠ .running ∨ s.lesson.time = 8639999 → s.clockTick pause = s ∧ exec (.clockCentisecond pause) s = .next s) ∧
    (s.lesson.state = .running → s.lesson.time < 8639999 →
      (s.lesson.ticks < 9 →
        s.clockTick pause = { s with lesson := { s.lesson with ticks := s.lesson.ticks + 1 } } ∧
        exec (.clockCentisecond pause) s = .next s) ∧
      (s.lesson.ticks = 9 → ∀ (now : Nat) (l : Lesson), now = s.lesson.time + 1 →
        l = { s.lesson with ticks := 0, hundredths := now % 100, seconds := now / 100 % 60, minutes := now / 6000 % 60
                            hours := now / 360000 } →
        exec (.clockCentisecond pause) s = .next (s.clockTick pause) ∧
        (s.lesson.hundredths < 99 ∨ s.params.timedInterval = 0 → s.clockTick pause = { s with lesson := l }) ∧
        (s.lesson.hundredths = 99 → s.params.timedInterval ≠ 0 →
          (s.lesson.timed + 1 < s.params.timedInterval →
            s.clockTick pause = { s with lesson := { l with timed := s.lesson.timed + 1 } }) ∧
          (s.params.timedInterval ≤ s.lesson.timed + 1 →
            s.clockTick pause = ({ s with lesson := { l with timed := 0 } } : State).timedCapture pause))))

/-- How the timeline takes an entry: dropped outside RUNNING, coalesced into an unsealed VIEW_CHANGED of the same port no more
than 100 centiseconds old, else appended while there are fewer than 256 entries and counted as lost otherwise (R152, R153,
R154, R155). -/
def Obligations.TimelineTakesEntries : Prop :=
  ∀ (t : Timeline) (time : Nat) (o : Offer),
    (t.entries.length < 256 → t.append time o = { t with
      entries := t.entries ++ [{ seq := t.nextSeq, time := time, what := o, isSealed := false, arrival := t.ms }]
      nextSeq := t.nextSeq + 1 }) ∧
    (256 ≤ t.entries.length → t.append time o = { t with gap := min 65535 (t.gap + 1) }) ∧
    (∀ state : LessonState, state ≠ .running → t.offer state time o = t) ∧
    (∀ (earlier : List Entry) (e : Entry), t.entries = earlier ++ [e] → o.kind = .viewChanged → e.what.kind = .viewChanged →
      e.what.port = o.port → e.isSealed = false → time ≤ e.time + 100 →
      t.offer .running time o = { t with
        entries := earlier ++ [{ e with time := time, what := { e.what with page := o.page, view := o.view } }] }) ∧
    ((o.kind ≠ .viewChanged ∨ t.entries = [] ∨ ∃ (earlier : List Entry) (e : Entry), t.entries = earlier ++ [e] ∧
        (e.what.kind ≠ .viewChanged ∨ e.what.port ≠ o.port ∨ e.isSealed = true ∨ e.time + 100 < time)) →
      t.offer .running time o = t.append time o)

/-! ### The export link -/

namespace Sys2Proof.Statements

/-- A page channel that pulls serve (R168). -/
def Serving (l : Link) (c : Channel) : Prop := ∃ d, l.chan c = .used .active d

/-- A BURST channel in progress (R163). -/
def InBurst (l : Link) (c : Channel) : Prop := ∃ d, l.chan c = .used .active d ∧ d.mode = .burst ∧ 1 ≤ d.sent

/-- Channel `c` is the candidate that the alternation chooses (R163). -/
def Alternates (l : Link) (P : Channel → Prop) (c : Channel) : Prop :=
  P c ∧ ∀ e, e ≠ c → P e → l.lastServed ≠ some c ∧ (l.lastServed = none → c = .ex0)

/-- Channel `c` is the page channel a pull chooses: a BURST channel in progress first, any ACTIVE channel next (R163). -/
def Chosen (l : Link) (c : Channel) : Prop :=
  Alternates l (InBurst l) c ∨ ((∀ e, ¬ InBurst l e) ∧ Alternates l (Serving l) c)

/-- The timeline channel is ready (R176). -/
def TimelineReady (s : State) : Prop :=
  ∃ (before after : List Entry) (oldest : Entry), s.timeline.entries = before ++ oldest :: after ∧
    (∀ e ∈ before, e.isSealed = true) ∧ oldest.isSealed = false ∧
    (s.params.readyCount ≤ s.timeline.entries.countP (fun e => !e.isSealed) ∨
      s.params.readyAge ≤ (s.timeline.ms - oldest.arrival).toNat ∨ s.lesson.state = .closing)

/-- Length of the stream a page channel carries (R169). -/
def streamBytes (d : ChanData) : Nat :=
  match d.scope with
  | .full => 22118400
  | .window => d.w * d.h * 2

/-- Address of byte `t` of that stream (R1, R169). -/
def streamByte (d : ChanData) (t : Nat) : Nat :=
  match d.scope with
  | .full => 22118400 * d.buffer.val + t
  | .window => 22118400 * d.buffer.val + 7680 * (d.y0 + t / (2 * d.w)) + 2 * d.x0 + t % (2 * d.w)

/-- The header of a block, its fields in order (R194). -/
def headerBytes (kind channel : Byte) (lesson serial : Nat) (slot last : Byte) (index length count : Nat) : List Byte :=
  [kind, channel] ++ be16 lesson ++ be16 serial ++ [slot, last] ++ be32 index ++ be16 length ++ be16 count

/-- The state with page channel `c` at a halt: HALTED and its pin released, if it was ACTIVE or STOPPING (R166). -/
def channelHalted (s : State) (c : Channel) : State :=
  match s.link.chan c with
  | .used .active d => (s.setChan c (.used .halted d)).unpin d.buffer
  | .used .stopping d => (s.setChan c (.used .halted d)).unpin d.buffer
  | _ => s

/-- The state after a halt from READY or DELIVERING with this cause, EX0 before EX1 (R156, R166; the order of the two channels is the
model's, log 6). -/
def linkHalted (s : State) (cause : HaltCause) : State :=
  let flight := match s.link.state with
    | .delivering b => some b
    | _ => none
  let l : Link := { s.link with state := .halted cause, halts := min 65535 (s.link.halts + 1), owed := [] }
  let t := channelHalted (channelHalted { s with link := l } .ex0) .ex1
  ({ t with timeline := { t.timeline with
      entries := t.timeline.entries.map fun e => { e with isSealed := false } } } : State).postAll
    (.exportHalted cause flight) none

/-- The state after page channel `c` with record `d` has reached DONE (R139, R172). -/
def channelFinished (s : State) (c : Channel) (d : ChanData) : State :=
  let mark : State := match s.store.page d.slot with
    | .stored tag data =>
      if d.scope = .full ∧ tag.serial = d.serial then
        { s with store := s.store.setPage d.slot (.stored tag { data with exported := true }) }
      else s
    | _ => s
  ((mark.setChan c (.used .done { d with sent := d.total })).unpin d.buffer).postAll
    (.exportDone c d.slot d.serial d.scope d.total d.requester) none

end Sys2Proof.Statements

/-- EXPORT_PULL, the opening of a transfer in every link state, the choice of the channel, and the block it begins with the bytes
owed; the bytes clocked, the last of which completes the delivery, and the closing (a transfer closed too early is in
`HaltEventsStopTheLink`); no byte of the frame memory changes (R1, R156, R162, R163, R164, R165, R169, R170, R176, R194). What one
command covers, and the fields of the transfer, are the model's (log 20), and page data outside the frame memory faults (log 28). -/
def Obligations.PullAnswersByLinkState : Prop :=
  (∀ s : State,
    (∀ cause, s.link.state = .halted cause → exec (.exportPull .opening) s = .next { s with
      link := { s.link with transfer := .header (headerBytes 5 255 s.lesson.number 0 255 0 0 0 cause.code), out := [] } }) ∧
    (∀ b, s.link.state = .delivering b →
      exec (.exportPull .opening) s = .next { s with link := { s.link with transfer := .nothing, out := [] } }) ∧
    (s.link.state = .ready → TimelineReady s → ∀ (batch : List Entry) (first : Entry) (rest : List Entry) (last : Byte),
      batch = s.timeline.entries.filter (fun e => !e.isSealed) → batch = first :: rest →
      last = (if s.lesson.state = .closing ∧ s.timeline.gap = 0 then 1 else 0) →
      exec (.exportPull .opening) s = .next { s with
        timeline := { s.timeline with entries := s.timeline.entries.map fun e => { e with isSealed := true } }
        link := { s.link with
          state := .delivering { channel := none, index := first.seq.toNat, kind := .timeline }, time := 0
          transfer := .block, out := []
          owed := headerBytes 3 2 s.lesson.number 0 255 last first.seq.toNat (20 * batch.length) batch.length
            ++ batch.flatMap Entry.bytes } }) ∧
    (s.link.state = .ready → ¬ TimelineReady s → (∀ c, ¬ Serving s.link c) → exec (.exportPull .opening) s = .next { s with
      link := { s.link with transfer := .header (headerBytes 4 255 s.lesson.number 0 255 0 0 0 0), out := [] } }) ∧
    (s.link.state = .ready → ¬ TimelineReady s → ∀ (c : Channel) (d : ChanData) (number : Byte), Chosen s.link c →
      s.link.chan c = .used .active d → number = (if c = .ex0 then 0 else 1) →
      (d.sent = 0 → exec (.exportPull .opening) s = .next { s with
        link := { s.link with
          state := .delivering { channel := some c, index := 0, kind := .pageHeader }, time := 0, lastServed := some c
          transfer := .block, out := []
          owed := headerBytes 1 number s.lesson.number d.serial (byte1 d.slot.val) (if d.total = 1 then 1 else 0) 0
            d.snapshot.length 0 ++ d.snapshot } }) ∧
      (0 < d.sent → ∀ start length : Nat, start = 8192 * (d.sent - 1) → length = min 8192 (streamBytes d - start) →
        ((∀ t, t < length → streamByte d (start + t) < 536870912) → exec (.exportPull .opening) s = .next { s with
          link := { s.link with
            state := .delivering { channel := some c, index := d.sent, kind := .pageData }, time := 0, lastServed := some c
            transfer := .block, out := []
            owed := headerBytes 2 number s.lesson.number d.serial (byte1 d.slot.val) (if d.sent + 1 = d.total then 1 else 0)
              d.sent length 0 ++ (List.range length).map fun t => Memory.read s.mem (streamByte d (start + t)) } }) ∧
        ((∃ t, t < length ∧ 536870912 ≤ streamByte d (start + t)) →
          ∃ a, exec (.exportPull .opening) s = .fault (.noSuchAddress a) ∧ 536870912 ≤ a)))) ∧
  (∀ (s : State) (n : Nat),
    (∀ rest, s.link.transfer = .header rest → exec (.exportPull (.clock n)) s = .next { s with
      link := { s.link with transfer := .header (rest.drop n), out := s.link.out ++ rest.take n } }) ∧
    (s.link.transfer = .block → s.link.owed ≠ [] →
      (n < s.link.owed.length → exec (.exportPull (.clock n)) s = .next { s with
        link := { s.link with owed := s.link.owed.drop n, out := s.link.out ++ s.link.owed.take n } }) ∧
      (s.link.owed.length ≤ n → exec (.exportPull (.clock n)) s = exec .exportDeliveryCompleted s)) ∧
    ((s.link.transfer = .block ∧ s.link.owed = []) ∨ s.link.transfer = .nothing ∨ s.link.transfer = .closed →
      exec (.exportPull (.clock n)) s = .next s)) ∧
  (∀ s : State,
    (∀ b, s.link.transfer = .nothing → s.link.state = .delivering b →
      exec (.exportPull .closing) s = .next { s with link := { s.link with transfer := .block } }) ∧
    ((s.link.transfer = .block ∧ s.link.owed = []) ∨ s.link.transfer = .header [] ∨ s.link.transfer = .closed ∨
        (s.link.transfer = .nothing ∧ ∀ b, s.link.state ≠ .delivering b) →
      exec (.exportPull .closing) s = .next { s with link := { s.link with transfer := .closed } }))

/-- EXPORT_DELIVERY_COMPLETED: the block is counted at its page channel, which stays ACTIVE, stops or is DONE, or the batch
leaves the timeline, with a GAP entry and the end of a drained lesson; outside DELIVERING the last byte is ignored (R139, R155,
R156, R157, R165, R168, R172; that the bytes still owed have been driven by then is the model's, log 20). -/
def Obligations.CompletedDeliveryIsCounted : Prop :=
  ∀ (s t : State), t = { s with link := { s.link with
      state := .ready, owed := [], out := s.link.out ++ s.link.owed } } →
    ((∀ b, s.link.state ≠ .delivering b) → exec .exportDeliveryCompleted s = .next s) ∧
    (∀ (b : Block) (c : Channel) (d : ChanData), s.link.state = .delivering b → b.channel = some c →
      (s.link.chan c = .used .active d → d.sent + 1 < d.total →
        exec .exportDeliveryCompleted s = .next (t.setChan c (.used .active { d with sent := d.sent + 1 }))) ∧
      (s.link.chan c = .used .stopping d → d.sent + 1 < d.total →
        exec .exportDeliveryCompleted s =
          .next ((t.setChan c (.used .stopped { d with sent := d.sent + 1 })).unpin d.buffer)) ∧
      (s.link.chan c = .used .active d ∨ s.link.chan c = .used .stopping d → d.sent + 1 = d.total →
        exec .exportDeliveryCompleted s = .next (channelFinished t c d))) ∧
    (∀ (b : Block) (left : List Entry) (after : Timeline), s.link.state = .delivering b → b.channel = none →
      left = s.timeline.entries.filter (fun e => !e.isSealed) →
      (0 < s.timeline.gap → left.length < s.timeline.entries.length → left.length < 256 → after = { s.timeline with
        entries := left ++ [{ seq := s.timeline.nextSeq, time := s.lesson.time
                              what := { kind := .gap, port := none, page := none, view := none, extra := s.timeline.gap }
                              isSealed := false, arrival := s.timeline.ms }]
        nextSeq := s.timeline.nextSeq + 1, gap := 0 } →
        exec .exportDeliveryCompleted s = .next { t with timeline := after }) ∧
      (s.timeline.gap = 0 ∨ left.length = s.timeline.entries.length → after = { s.timeline with entries := left } →
        (s.lesson.state ≠ .closing ∨ left ≠ [] → exec .exportDeliveryCompleted s = .next { t with timeline := after }) ∧
        (s.lesson.state = .closing → left = [] → exec .exportDeliveryCompleted s = .next
          (({ t with timeline := after, lesson := { s.lesson with state := .idle } } : State).postAll
            (.lessonState .idle .closing s.lesson.number s.lesson.time .drained) none))))

/-- The events that halt the link: the tick at which the delivery time reaches EXPORT_TIMEOUT, a link error, a transfer closed before
the last byte of what it carries, a failed read of page data of the block in flight, and the recorder's presence line; in HALTED
they change nothing of the link record (R156, R162, R165, R166; what EXPORT_DELIVERY_TIMEOUT does by itself is the model's, log 5,
and so are the block a failed read concerns, log 21, the fields of the transfer, log 20, the order of the port reset and the halt and of
the two page channels, log 6, and what becomes of a transaction in progress at the recorder's port and of a PART_READ there,
logs 11 and 27). -/
def Obligations.HaltEventsStopTheLink : Prop :=
  ∀ s : State,
    (s.link.state.block? = none → s.linkTick = s ∧ exec .exportDeliveryTimeout s = .next s) ∧
    (∀ (b : Block) (t : State), s.link.state = .delivering b → t = { s with link := { s.link with time := s.link.time + 1 } } →
      (s.link.time + 1 < s.params.exportTimeout → s.linkTick = t ∧ exec .exportDeliveryTimeout s = .next s) ∧
      (s.params.exportTimeout ≤ s.link.time + 1 →
        s.linkTick = linkHalted t .timeout ∧ exec .exportDeliveryTimeout s = .next (linkHalted t .timeout))) ∧
    ((∀ cause, s.link.state ≠ .halted cause) → exec .exportLinkError s = .next (linkHalted s .linkError)) ∧
    ((s.link.transfer = .block ∧ s.link.owed ≠ []) ∨ (∃ rest, rest ≠ [] ∧ s.link.transfer = .header rest) →
      ∀ t : State, t = { s with link := { s.link with transfer := .closed } } →
      ((∀ cause, s.link.state ≠ .halted cause) → exec (.exportPull .closing) s = .next (linkHalted t .linkError)) ∧
      (∀ cause, s.link.state = .halted cause → exec (.exportPull .closing) s = .next t)) ∧
    (∀ cause, s.link.state = .halted cause → exec .exportLinkError s = .next s ∧
      (∀ (c : Channel) (x : BufId), exec (.exportMemoryFault c x) s = .next s)) ∧
    (∀ (b : Block) (c : Channel) (d : ChanData), s.link.state = .delivering b → b.channel = some c → b.kind = .pageData →
      s.link.chan c = .used .active d ∨ s.link.chan c = .used .stopping d →
      exec (.exportMemoryFault c d.buffer) s = .next (linkHalted s .memory)) ∧
    ((s.port .recorder).present = true → ∃ t : State, PortDropped s .recorder t ∧
      ((∀ cause, s.link.state ≠ .halted cause) → exec (.presenceLost .recorder) s = .next (linkHalted t .linkDown)) ∧
      (∀ cause, s.link.state = .halted cause → exec (.presenceLost .recorder) s = .next t) ∧
      t = { s with
        ports := t.ports, tenancy := t.tenancy, timeline := t.timeline
        view := if s.tenancy.holder = some .recorder then
            { s.view with staged := { s.view.staged with target := s.view.zoom } } else s.view } ∧
      (t.port .recorder).present = false ∧ (t.port .recorder).order = [] ∧
      (s.tenancy.holder ≠ some .recorder → t.view = s.view ∧ t.timeline = s.timeline ∧
        (∀ j, j ≠ .recorder → t.port j = s.port j)))

/-- EXPORT_PAGE, its cases in order (R139, R169, R170, R171, R194). -/
def Obligations.ExportPageStartsAChannel : Prop :=
  ∀ (s : State) (p : Port) (k : Fin 4) (q : Request) (ch slot a b sc mo : Byte) (serial : Nat),
    Hands s p k q 0x60 [ch, slot, a, b, sc, mo] → serial = 256 * a.toNat + b.toNat →
    (1 < ch ∨ 1 < sc ∨ 1 < mo → exec (.exportPage p) s = .next (s.reply p k q .badArgument [])) ∧
    (∀ (c : Channel) (scope : Scope) (mode : ExportMode),
      (ch = 0 ∧ c = .ex0) ∨ (ch = 1 ∧ c = .ex1) → (sc = 0 ∧ scope = .full) ∨ (sc = 1 ∧ scope = .window) →
      (mo = 0 ∧ mode = .burst) ∨ (mo = 1 ∧ mode = .interleaved) →
      (∀ d, s.link.chan c = .used .active d ∨ s.link.chan c = .used .stopping d →
        exec (.exportPage p) s = .next (s.reply p k q .busy [])) ∧
      ((∀ d, s.link.chan c ≠ .used .active d ∧ s.link.chan c ≠ .used .stopping d) →
        (20 ≤ slot → exec (.exportPage p) s = .next (s.reply p k q .noPage [])) ∧
        (∀ j : SlotId, slot.toNat = j.val →
          ((∀ tag data, s.store.page j = .stored tag data → tag.serial ≠ serial) →
            exec (.exportPage p) s = .next (s.reply p k q .noPage [])) ∧
          (∀ (tag : PageTag) (data : PageData) (x : ChanData) (width height blocks : Nat) (lesson : List Byte),
            s.store.page j = .stored tag data → tag.serial = serial →
            (scope = .full ∧ width = 3840 ∧ height = 2880 ∧ blocks = 2700) ∨
              (scope = .window ∧ width = data.w ∧ height = data.h ∧ blocks = (data.w * data.h * 2 + 8191) / 8192) →
            lesson = (match data.lesson with
              | some l => [1] ++ be16 l.number ++ be32 l.time
              | none => [0, 0, 0, 0, 0, 0, 0]) →
            x = { slot := j, serial := serial, buffer := data.buffer, scope := scope, mode := mode, total := blocks + 1
                  sent := 0, requester := p, x0 := data.x0, y0 := data.y0, w := data.w, h := data.h
                  snapshot := be16 serial ++ [slot, byte1 tag.origin.code, byte1 tag.trigger.code] ++ lesson
                    ++ be16 data.zoom ++ be16 data.x0 ++ be16 data.y0 ++ be16 data.w ++ be16 data.h
                    ++ [byte1 data.gain, byte1 data.core, byte1 data.exposure, byte1 data.lamp, sc] ++ be16 width
                    ++ be16 height ++ be32 blocks ++ [byte1 tag.label.length] ++ tag.label ++ data.thumb } →
            exec (.exportPage p) s = .next (({ s.setChan c (.used .active x) with
              pool := s.pool.setRec data.buffer { s.pool.bufRec data.buffer with
                pins := (s.pool.bufRec data.buffer).pins + 1 } } : State).reply p k q .ok (be32 (blocks + 1)))))))

/-- EXPORT_STOP, EXPORT_CONTINUE and EXPORT_RESUME, case by case (R167, R173, R174; that a page of the channel's
serial in another buffer is another page, and one in the same buffer the channel's own, is the model's, log 31). -/
def Obligations.StopContinueAndResumeKeepTheProgress : Prop :=
  (∀ (s : State) (p : Port) (k : Fin 4) (q : Request) (ch : Byte),
    (Hands s p k q 0x61 [ch] →
      (1 < ch → exec (.exportStop p) s = .next (s.reply p k q .badArgument [])) ∧
      (∀ (c : Channel), (ch = 0 ∧ c = .ex0) ∨ (ch = 1 ∧ c = .ex1) →
        (∀ d, s.link.chan c = .used .active d →
          ((∀ b, s.link.state = .delivering b → b.channel ≠ some c) → exec (.exportStop p) s = .next
            (((s.setChan c (.used .stopped d)).unpin d.buffer).reply p k q .ok
              ([byte1 (Chan.used .stopped d).stateCode] ++ be32 d.sent))) ∧
          (∀ b, s.link.state = .delivering b → b.channel = some c → exec (.exportStop p) s = .next
            ((s.setChan c (.used .stopping d)).reply p k q .ok
              ([byte1 (Chan.used .stopping d).stateCode] ++ be32 d.sent)))) ∧
        (∀ d phase, s.link.chan c = .used phase d → phase = .stopping ∨ phase = .stopped ∨ phase = .halted →
          exec (.exportStop p) s = .next (s.reply p k q .ok ([byte1 (Chan.used phase d).stateCode] ++ be32 d.sent))) ∧
        (s.link.chan c = .idle ∨ (∃ d, s.link.chan c = .used .done d) →
          exec (.exportStop p) s = .next (s.reply p k q .wrongState [])))) ∧
    (Hands s p k q 0x62 [ch] →
      (1 < ch → exec (.exportContinue p) s = .next (s.reply p k q .badArgument [])) ∧
      (∀ (c : Channel), (ch = 0 ∧ c = .ex0) ∨ (ch = 1 ∧ c = .ex1) →
        ((∀ d, s.link.chan c ≠ .used .stopped d ∧ s.link.chan c ≠ .used .halted d) →
          exec (.exportContinue p) s = .next (s.reply p k q .wrongState [])) ∧
        (∀ d, s.link.chan c = .used .stopped d ∨ s.link.chan c = .used .halted d →
          (∀ tag data, s.store.page d.slot = .stored tag data → tag.serial = d.serial → data.buffer = d.buffer →
            exec (.exportContinue p) s = .next (({ s.setChan c (.used .active d) with
              pool := s.pool.setRec d.buffer { s.pool.bufRec d.buffer with
                pins := (s.pool.bufRec d.buffer).pins + 1 } } : State).reply p k q .ok
              ([byte1 (Chan.used .active d).stateCode] ++ be32 d.sent ++ be32 d.total))) ∧
          ((∀ tag data, s.store.page d.slot = .stored tag data → tag.serial ≠ d.serial ∨ data.buffer ≠ d.buffer) →
            exec (.exportContinue p) s = .next ((s.setChan c .idle).reply p k q .noPage [])))))) ∧
  (∀ (s : State) (p : Port) (k : Fin 4) (q : Request), Hands s p k q 0x63 [] →
    (∀ cause, s.link.state = .halted cause →
      ((s.port .recorder).present = true → exec (.exportResume p) s = .next
        (({ s with link := { s.link with state := .ready } } : State).reply p k q .ok
          [byte1 (LinkState.code .ready), byte1 cause.code])) ∧
      ((s.port .recorder).present = false → exec (.exportResume p) s = .next (s.reply p k q .wrongState []))) ∧
    ((∀ cause, s.link.state ≠ .halted cause) → exec (.exportResume p) s = .next
      (s.reply p k q .ok [byte1 s.link.state.code, 0])))

/-- A pin released: the count falls, and at 0 a RETIRING buffer becomes FREE and joins a short ring, the page of a DISCARDING
record is freed with its notice, and any other buffer stays as it is (R6, R11, R12, R13, R135). -/
def Obligations.PinReleaseFreesTheBuffer : Prop :=
  ∀ (s : State) (b : BufId) (r : BufRec), s.pool.bufRec b = r → 0 < r.pins →
    ((1 < r.pins ∨ r.role = .ring ∨ r.role = .held ∨
        (r.role = .page ∧ ∀ k tag d by_, s.store.page k = .discarding tag d by_ → d.buffer ≠ b)) →
      s.unpin b = { s with pool := s.pool.setRec b { r with pins := r.pins - 1 } }) ∧
    (r.pins = 1 → r.role = .retiring →
      (3 ≤ s.pool.ring.length →
        s.unpin b = { s with pool := s.pool.setRec b { role := .free, pins := 0, complete := none } }) ∧
      (s.pool.ring.length < 3 →
        s.unpin b = { s with pool := { s.pool.setRec b { role := .ring, pins := 0, complete := none } with
          ring := b :: s.pool.ring } })) ∧
    (r.pins = 1 → r.role = .page → s.rolesOk → ∀ k tag d by_, s.store.page k = .discarding tag d by_ → d.buffer = b →
      (3 ≤ s.pool.ring.length →
        s.unpin b = ({ s with
          store := s.store.setPage k .empty
          pool := s.pool.setRec b { role := .free, pins := 0, complete := none } } : State).postAll
            (.pageDiscarded k tag.serial by_) none) ∧
      (s.pool.ring.length < 3 →
        s.unpin b = ({ s with
          store := s.store.setPage k .empty
          pool := { s.pool.setRec b { role := .ring, pins := 0, complete := none } with ring := b :: s.pool.ring } }
          : State).postAll (.pageDiscarded k tag.serial by_) none))
end
end

