-- ==== Sys2Proof/Laws/OutputFrame.lean ====
section
/-! SUPPORT. Output frame: what the shares of an output frame start come to: the entries of a commit, the pins released and taken at
a frame begin, and the reservations that fail at a stall. Provers cite these in place of unfolding the operations.
-/
namespace Sys2Proof.Machine

/-! ### The commit -/

/-- Entries offered in one event change the timeline alone, each offered in the state and at the time of the event (R153). -/
theorem State.offerAll_eq (s : State) (os : List Offer) :
    s.offerAll os = s.withTimeline (os.foldl (fun line o => line.offer s.lesson.state s.lesson.time o) s.timeline) := by
  unfold State.offerAll
  induction os generalizing s with
  | nil => rfl
  | cons o os ih => simp only [List.foldl_cons, ih]; rfl

/-! ### Pins at a frame begin -/

/-- A release of a pin does not look at the view or the timeline. -/
theorem State.unpin_withView (s : State) (b : BufId) (v : View) (line : Timeline) :
    ((s.withView v).withTimeline line).unpin b = ((s.unpin b).withView v).withTimeline line := by
  unfold State.unpin
  dsimp only [State.withPool, State.withView, State.withTimeline]
  split
  · unfold State.pinsGone
    dsimp only [State.withStore, State.withPool]
    split <;> rfl
  · rfl

/-- The same of a reader that may hold no pin. -/
theorem State.unpin?_withView (s : State) (o : Option BufId) (v : View) (line : Timeline) :
    ((s.withView v).withTimeline line).unpin? o = ((s.unpin? o).withView v).withTimeline line := by
  cases o with
  | none => rfl
  | some b => exact s.unpin_withView b v line

/-- A release of a pin changes the pool, the store and the ports alone. -/
theorem State.unpin_eq (s : State) (b : BufId) :
    s.unpin b = { s with pool := (s.unpin b).pool, store := (s.unpin b).store, ports := (s.unpin b).ports } := by
  unfold State.unpin
  dsimp only [State.withPool]
  split
  · unfold State.pinsGone
    dsimp only [State.withStore, State.withPool]
    split <;> rfl
  · rfl

/-- A pin changes the pool alone, and looks at nothing else. -/
theorem State.pin?_pool_congr (s t : State) (o : Option BufId) (h : s.pool = t.pool) : (s.pin? o).pool = (t.pin? o).pool := by
  cases o with
  | none => exact h
  | some b => show s.pool.pin b = t.pool.pin b; rw [h]

/-- A frame that begins in RUNNING changes the feed record and takes the pins it records (R91, R93). -/
theorem State.beginRunning_eq (s : State) :
    s.beginRunning = { s with
      feed := s.beginRunning.feed
      pool := ((s.pin? s.beginRunning.feed.first.pin).pin? s.beginRunning.feed.second.pin).pool } := by
  unfold State.beginRunning
  split
  · unfold State.blankAreas State.withFeed
    split <;> rfl
  · unfold State.pinSources
    generalize s.sources = src
    obtain ⟨a, b⟩ := src
    cases a <;> rcases b with _ | _ | _ <;> rfl

/-! ### Reservations at a stall -/

/-- The record in a slot after another record is put in slot `k`. -/
theorem Store.page_setPage (st : Store) (k j : SlotId) (r : PageRec) :
    (st.setPage k r).page j = if j = k then r else st.page j := by
  unfold Store.page Store.setPage
  by_cases h : j = k
  · subst h; simp
  · rw [if_neg h, Fin.getElem_fin, Fin.getElem_fin, Vector.getElem_set_ne]
    exact fun hh => h (Fin.ext hh.symm)

/-- A reservation that fails is announced and its record is EMPTY (R129). -/
theorem State.failReservation_reserved (s : State) (k : SlotId) (tag : PageTag) (after : Word)
    (h : s.store.page k = .reserved tag after) :
    s.failReservation k =
      (s.withStore (s.store.setPage k .empty)).postAll (.captureFailed k tag.serial tag.origin .stalled) none := by
  simp [State.failReservation, h]

/-- A record that is no reservation is left at a stall (R129). -/
theorem State.failReservation_other (s : State) (k : SlotId) (h : ∀ tag after, s.store.page k ≠ .reserved tag after) :
    s.failReservation k = s := by
  unfold State.failReservation
  split
  · rename_i tag after hp; exact absurd hp (h tag after)
  · rfl

end Sys2Proof.Machine
end

