-- ==== Sys2Proof/Laws/Pool.lean ====
section
/-! SUPPORT. Pool: the buffer pool's operations: what a record update reads as, and what each operation leaves.
-/
namespace Sys2Proof.Machine

/-- The record just written. -/
@[simp] theorem Pool.bufRec_setRec_same (p : Pool) (b : BufId) (r : BufRec) : (p.setRec b r).bufRec b = r := by
  simp [Pool.setRec, Pool.bufRec]

/-- Every other record stays. -/
theorem Pool.bufRec_setRec_other (p : Pool) (b c : BufId) (r : BufRec) (h : c ≠ b) :
    (p.setRec b r).bufRec c = p.bufRec c := by
  unfold Pool.setRec Pool.bufRec
  simp only [Fin.getElem_fin]
  exact Vector.getElem_set_ne _ _ fun e => h (Fin.ext e.symm)

/-- A record read after an update. -/
theorem Pool.bufRec_setRec (p : Pool) (b c : BufId) (r : BufRec) :
    (p.setRec b r).bufRec c = if c = b then r else p.bufRec c := by
  split
  · next h => subst h; exact Pool.bufRec_setRec_same p c r
  · next h => exact Pool.bufRec_setRec_other p b c r h

/-- The ring list stays under a record update. -/
@[simp] theorem Pool.ring_setRec (p : Pool) (b : BufId) (r : BufRec) : (p.setRec b r).ring = p.ring := rfl

/-- The records stay under another ring list. -/
@[simp] theorem Pool.bufRec_withRing (p : Pool) (l : List BufId) (b : BufId) :
    Pool.bufRec { p with ring := l } b = p.bufRec b := rfl

/-- The later of two updates of one record stands. -/
@[simp] theorem Pool.setRec_setRec (p : Pool) (b : BufId) (r q : BufRec) : (p.setRec b r).setRec b q = p.setRec b q := by
  simp [Pool.setRec]

/-- The newest complete buffer is the last complete one of the ring. -/
theorem Pool.newest_of_split (p : Pool) (before after : List BufId) (b : BufId) (h : p.ring = before ++ b :: after)
    (hb : p.isComplete b = true) (ha : ∀ x ∈ after, p.isComplete x = false) : p.newest = some b := by
  have hnone : after.filter p.isComplete = [] := by
    rw [List.filter_eq_nil_iff]
    intro x hx
    simp [ha x hx]
  simp [Pool.newest, h, List.filter_append, hb, hnone]

/-- There is no newest complete buffer when the ring holds no complete one. -/
theorem Pool.newest_eq_none (p : Pool) (h : ∀ x ∈ p.ring, p.isComplete x = false) : p.newest = none := by
  have hnone : p.ring.filter p.isComplete = [] := by
    rw [List.filter_eq_nil_iff]
    intro x hx
    simp [h x hx]
  simp [Pool.newest, hnone]

/-- A pin raises one count. -/
theorem Pool.pins_pin (p : Pool) (b c : BufId) :
    ((p.pin b).bufRec c).pins = (p.bufRec c).pins + if c = b then 1 else 0 := by
  unfold Pool.pin
  rw [Pool.bufRec_setRec]
  split <;> simp_all

/-- A pin leaves roles and complete flags. -/
theorem Pool.role_pin (p : Pool) (b c : BufId) :
    ((p.pin b).bufRec c).role = (p.bufRec c).role ∧ ((p.pin b).bufRec c).complete = (p.bufRec c).complete := by
  unfold Pool.pin
  rw [Pool.bufRec_setRec]
  split <;> simp_all

/-- A buffer that becomes FREE joins a short ring, keeps every pin count, and leaves the other buffers. -/
theorem Pool.pins_setFree (p : Pool) (b c : BufId) : ((p.setFree b).bufRec c).pins = (p.bufRec c).pins := by
  unfold Pool.setFree Pool.joinRing
  by_cases h : p.ring.length < 3
  · simp only [Pool.ring_setRec, h, if_true, Pool.bufRec_withRing, Pool.setRec_setRec, Pool.bufRec_setRec]
    split <;> simp_all
  · simp only [Pool.ring_setRec, h, if_false, Pool.bufRec_setRec]
    split <;> simp_all

/-- A release of a pin lowers one count. -/
theorem Pool.pins_unpin (p : Pool) (b c : BufId) :
    ((p.unpin b).bufRec c).pins = (p.bufRec c).pins - if c = b then 1 else 0 := by
  unfold Pool.unpin
  dsimp only
  split
  · rw [Pool.pins_setFree, Pool.bufRec_setRec]
    split <;> simp_all
  · rw [Pool.bufRec_setRec]
    split <;> simp_all

/-- A released buffer keeps every pin count. -/
theorem Pool.pins_release (p : Pool) (b c : BufId) : ((p.release b).bufRec c).pins = (p.bufRec c).pins := by
  unfold Pool.release
  split
  · exact Pool.pins_setFree p b c
  · rw [Pool.bufRec_setRec]
    split <;> simp_all

/-- A take of a given buffer keeps every pin count. -/
theorem Pool.pins_give (p : Pool) (b c : BufId) (role : Role) : ((p.give b role).bufRec c).pins = (p.bufRec c).pins := by
  unfold Pool.give Pool.refill Pool.joinRing
  dsimp only
  split
  · split
    · simp only [Pool.bufRec_withRing, Pool.bufRec_setRec]
      split
      · split <;> simp_all
      · split <;> simp_all
    · simp only [Pool.bufRec_withRing, Pool.bufRec_setRec]
      split <;> simp_all
  · simp only [Pool.bufRec_withRing, Pool.bufRec_setRec]
    split <;> simp_all

end Sys2Proof.Machine
end

