-- ==== Sys2Proof/Laws/Timeline.lean ====
section
/-! SUPPORT. Timeline: what an append and an offer leave in the timeline, and where the evaluation of the handover conditions
ends.
-/
namespace Sys2Proof.Machine

/-- An append with room. -/
theorem Timeline.append_room (t : Timeline) (time : Nat) (o : Offer) (h : t.entries.length < Config.timelineRoom) :
    t.append time o = { t with
      entries := t.entries ++ [{ seq := t.nextSeq, time := time, what := o, isSealed := false, arrival := t.ms }]
      nextSeq := t.nextSeq + 1 } := by
  simp [Timeline.append, h]

/-- An append to a full list. -/
theorem Timeline.append_full (t : Timeline) (time : Nat) (o : Offer) (h : Config.timelineRoom ≤ t.entries.length) :
    t.append time o = { t with gap := min 65535 (t.gap + 1) } := by
  simp [Timeline.append, Nat.not_lt.2 h]

/-- An offer outside RUNNING is dropped. -/
@[simp] theorem Timeline.offer_dropped (t : Timeline) (state : LessonState) (time : Nat) (o : Offer) (h : state ≠ .running) :
    t.offer state time o = t := by
  simp [Timeline.offer, h]

/-- An append keeps the bound on the entries. -/
theorem Timeline.length_append (t : Timeline) (time : Nat) (o : Offer) (h : t.entries.length ≤ Config.timelineRoom) :
    (t.append time o).entries.length ≤ Config.timelineRoom := by
  unfold Timeline.append
  split
  · next hlt => simpa using hlt
  · exact h

/-- The entry an offer is coalesced into is the newest. -/
theorem Timeline.mergesInto_last {t : Timeline} {time : Nat} {o : Offer} {e : Entry} (h : t.mergesInto time o = some e) :
    t.entries.getLast? = some e := by
  unfold Timeline.mergesInto at h
  split at h
  · next x hx =>
    split at h
    · simp_all
    · cases h
  · cases h

/-- An offer keeps the bound on the entries. -/
theorem Timeline.length_offer (t : Timeline) (state : LessonState) (time : Nat) (o : Offer)
    (h : t.entries.length ≤ Config.timelineRoom) : (t.offer state time o).entries.length ≤ Config.timelineRoom := by
  unfold Timeline.offer
  split
  · split
    · next e he =>
      have hne : t.entries ≠ [] := by
        intro hnil
        have := Timeline.mergesInto_last he
        simp [hnil] at this
      have hpos : 0 < t.entries.length := List.length_pos_iff.2 hne
      simp only [List.length_append, List.length_dropLast, List.length_cons, List.length_nil]
      omega
    · exact Timeline.length_append t time o h
  · exact h

/-- A handover to the best waiter leaves one waiter fewer. -/
theorem State.grantBest_waiters (s : State) (c : TenancyCause) (tell : Bool) :
    (s.grantBest c tell).tenancy.waiters = s.tenancy.waiters.tail := by
  unfold State.grantBest
  cases h : s.tenancy.waiters with
  | nil => simp [h]
  | cons w rest =>
    cases s.tenancy.holder with
    | none => rfl
    | some p => cases tell <;> rfl

/-- With fuel for every waiter the evaluation ends where no condition holds (R111). -/
theorem State.evaluate_ends (n : Nat) (s : State) (h : s.tenancy.waiters.length ≤ n) :
    (State.evaluate n s).tenancy.due (State.evaluate n s).params = none := by
  induction n generalizing s with
  | zero =>
    have hnil : s.tenancy.waiters = [] := List.length_eq_zero_iff.1 (Nat.le_zero.1 h)
    cases hh : s.tenancy.holder <;> simp [State.evaluate, Tenancy.due, hnil, hh]
  | succ n ih =>
    unfold State.evaluate
    split
    · exact ih _ (by rw [State.grantBest_waiters, List.length_tail]; omega)
    · next hnone => exact hnone

end Sys2Proof.Machine
end

