-- ==== Sys2Proof/Laws/Transactions.lean ====
section
/-! SUPPORT. Transactions: what the events of a WRITE, a FETCH and an export transfer come to, case by case, and where the output
frame carries a pixel pair. Provers cite these in place of unfolding the operations.
-/
namespace Sys2Proof.Machine

/-! ### WRITE and FETCH (R180, R182, R191) -/

/-- Bytes clocked in a FETCH are driven from its item, whatever the master sends. -/
theorem PortRec.clock_fetch (r : PortRec) (bytes : List Byte) (f : Fetch) (h : r.fetch = some f) :
    r.clock bytes = r.drive bytes.length := by simp [PortRec.clock, h]

/-- Bytes clocked in a transaction that is not a FETCH. -/
theorem PortRec.clock_write (r : PortRec) (bytes : List Byte) (w : Writing) (hf : r.fetch = none) (h : r.write = some w) :
    r.clock bytes = r.writeBytes bytes w := by simp [PortRec.clock, hf, h]

/-- With no transaction in progress every byte clocked reads 00h and nothing else changes. -/
theorem PortRec.clock_idle (r : PortRec) (bytes : List Byte) (hf : r.fetch = none) (h : r.write = none) :
    r.clock bytes = { r with driven := r.driven ++ List.replicate bytes.length 0 } := by
  simp [PortRec.clock, PortRec.drive, hf, h]

/-- A message short of its last argument byte takes nothing and drives nothing. -/
theorem PortRec.receive_short (r : PortRec) (message : List Byte) (h : parseRequest message = none) :
    r.receive message = { r with write := some (.message message) } := by simp [PortRec.receive, h]

/-- A whole message is taken or refused, with the acceptance byte for the bytes clocked after it. -/
theorem PortRec.receive_whole (r : PortRec) (message : List Byte) (q : Request) (n : Nat)
    (h : parseRequest message = some (q, n)) :
    r.receive message = { (r.accept q).1 with
      write := some (.answered (r.accept q).2 n), driven := acceptanceBytes (r.accept q).2 n } := by
  simp [PortRec.receive, h]

/-- A message parses exactly when its tag, code, length and argument bytes are there. -/
theorem parseRequest_args (tag code n : Byte) (args more : List Byte) (h : args.length = n.toNat) :
    parseRequest (tag :: code :: n :: (args ++ more)) = some ({ tag := tag, code := code, args := args }, more.length) := by
  simp [parseRequest, ← h]

/-- A port that takes a request changes its slots and its taking order alone. -/
theorem PortRec.accept_slots (r : PortRec) (q : Request) :
    (r.accept q).1 = { r with slots := (r.accept q).1.slots, order := (r.accept q).1.order } := by
  unfold PortRec.accept
  split
  · rfl
  · split
    · rfl
    · split <;> rfl

/-! ### Export transfers (R162, R165) -/

/-- Bytes clocked of the block in flight, short of its last, move from what is owed to what has been driven. -/
theorem State.clockTransfer_block (s : State) (n : Nat) (h : s.link.transfer = .block) (hn : n < s.link.owed.length) :
    s.clockTransfer n =
      s.withLink { s.link with owed := s.link.owed.drop n, out := s.link.out ++ s.link.owed.take n } := by
  have hne : s.link.owed ≠ [] := by rintro he; simp [he] at hn
  simp [State.clockTransfer, h, hne, Nat.not_le.mpr hn]

/-- Clocking all that is owed of the block in flight completes its delivery. -/
theorem State.clockTransfer_last (s : State) (n : Nat) (h : s.link.transfer = .block) (hne : s.link.owed ≠ [])
    (hn : s.link.owed.length ≤ n) : s.clockTransfer n = s.lastByte := by
  simp [State.clockTransfer, h, hne, hn]

/-- A closing that breaks nothing off changes the transfer alone. -/
theorem State.closeTransfer_whole (s : State) (h : s.link.brokenOff = false) :
    s.closeTransfer = s.withLink { s.link with transfer := s.link.afterClosing } := by
  simp [State.closeTransfer, h]

/-- A closing before the last byte of what the transfer carries is a link error. -/
theorem State.closeTransfer_broken (s : State) (h : s.link.brokenOff = true) :
    s.closeTransfer = (s.withLink { s.link with transfer := s.link.afterClosing }).halt .linkError := by
  simp [State.closeTransfer, h]

/-! ### The output frame (R82, R84) -/

/-- In DETACHED the projector link carries nothing. -/
theorem State.outputPair_detached (s : State) (j k : Nat) (h : s.feed.state = .detached) : s.outputPair j k = none := by
  simp [State.outputPair, Feed.lines, h]

/-- Within the lines and pairs of the mode held the link carries what the pair's area sends. -/
theorem State.outputPair_inside (s : State) (j k : Nat) (hj : j < s.feed.lines) (hk : k < s.feed.pairs) :
    s.outputPair j k = some (s.areaPair j k) := by simp [State.outputPair, hj, hk]

/-- The page of a channel is kept exactly where its slot is STORED with its serial, in its buffer (R174). -/
theorem Store.keepsPage_iff (st : Store) (d : ChanData) :
    st.keepsPage d = true ↔
      ∃ tag data, st.page d.slot = .stored tag data ∧ tag.serial = d.serial ∧ data.buffer = d.buffer := by
  unfold Store.keepsPage Store.storedWith
  cases h : st.page d.slot with
  | stored tag data => by_cases hs : tag.serial = d.serial <;> simp [hs]
  | _ => simp

end Sys2Proof.Machine
end

