-- ==== Sys2Proof/Tests/Slice0.lean ====
section
/-! SUPPORT. Slice0: our own tests: the WellFormed smoke, the spec's worked numbers, the codes, one step of each family, and for
every statement with hypotheses a state and operands that meet them.
-/
namespace Sys2Proof.Tests

-- One theorem at a time: elaborated at once, the kernel evaluations take a thread of 256 MiB each.
set_option Elab.async false

open Sys2Proof Sys2Proof.Machine Sys2Proof.Statements

/-! ### States -/

/-- The state an outcome answers, and the state after reset where it answers none. -/
def after : Host.Outcome State Fault Refusal → State
  | .next t => t
  | _ => State.reset

/-- The outcome is a next state. -/
def runs : Host.Outcome State Fault Refusal → Bool
  | .next _ => true
  | _ => false

/-- A request message with tag 7. -/
def ask (code : Byte) (args : List Byte) : Request := { tag := 7, code := code, args := args }

/-- `s` with that request WAITING as the only one of port `p`. -/
def asks (s : State) (p : Port) (code : Byte) (args : List Byte) : State :=
  s.setPort p { s.port p with slots := #v[.waiting (ask code args), .free, .free, .free], order := [0] }

/-- The metadata of a frame in the demo. -/
def info (frame : Word) : FrameMeta := { frame := frame, gain := 16, core := 2, exposure := 128, lamp := 6, thumb := [] }

/-- The tag of the stored page in the demo. -/
def tag31 : PageTag := { serial := 31, origin := .port .desk, trigger := .manual, label := [0x41] }

/-- The data of the stored page in the demo. -/
def data31 : PageData :=
  { lesson := none, zoom := 1600, x0 := 1800, y0 := 1364, w := 240, h := 148, frame := 4, gain := 16, core := 2, exposure := 128
    lamp := 6, thumb := [], exported := false, buffer := 3 }

/-- The export of that page in the demo. -/
def chan31 : ChanData :=
  { slot := 2, serial := 31, buffer := 3, scope := .window, mode := .burst, total := 10, sent := 1, requester := .desk
    snapshot := [1, 2, 3], x0 := 1800, y0 := 1364, w := 240, h := 148 }

/-- The pool of the demo: buffer 0 is written, 1 and 2 are complete, 3 is a page that is exported, 2 is shown. -/
def demoPool : Pool :=
  let p := Pool.reset.setRec 1 { role := .ring, pins := 0, complete := some (info 5) }
  let q := p.setRec 2 { role := .ring, pins := 1, complete := some (info 6) }
  q.setRec 3 { role := .page, pins := 1, complete := some (info 4) }

/-- One entry of the demo's timeline. -/
def entry0 : Entry := { seq := 9, time := 100, what := plainOffer .lessonStarted (some .desk) 1, isSealed := false, arrival := 0 }

/-- A part at work: a frame is received, a lesson runs, the panel holds the view and the desk waits, page 31 is stored and
exported on EX0 with its block in flight, and the feed shows buffer 2. -/
def demo : State :=
  { State.reset with
    pool := demoPool
    intake := { Intake.reset with state := .receiving, writeBuffer := some 0, startCount := 7, lastStart := some 100 }
    feed := { Feed.reset true with state := .running, first := { pin := some 2, showing := .picture, fault := none } }
    tenancy := { holder := some .panel, holdFast := false, singleUse := false, idle := 10
                 waiters := [{ port := .desk, holdFast := false, singleUse := false }] }
    store := { Store.reset with pages := Store.reset.pages.set 2 (.stored tag31 data31), list := [2], lastSerial := 31 }
    lesson := { Lesson.reset with state := .running, number := 1, seconds := 1, ticks := 9 }
    timeline := { entries := [entry0], gap := 0, nextSeq := 10, ms := 2000 }
    link := { Link.reset with state := .delivering { channel := some .ex0, index := 1, kind := .pageData }, time := 3
                              lastServed := some .ex0, ex0 := .used .active chan31, transfer := .block
                              owed := [10, 11, 12] } }

/-- The demo with a holder on whom no port waits. -/
def calm : State := { demo with tenancy := { demo.tenancy with waiters := [] } }

/-- The demo in another lesson state. -/
def lessonIn (state : LessonState) : State := { demo with lesson := { demo.lesson with state := state } }

/-- The demo with another link state. -/
def linkIn (state : LinkState) : State := { demo with link := { demo.link with state := state } }

/-- The demo with another record for EX0. -/
def chanIn (c : Chan) : State := demo.setChan .ex0 c

/-- The demo with another record in slot 2. -/
def pageIn (r : PageRec) : State := { demo with store := demo.store.setPage 2 r }

/-- The demo with a full page table, for captures. -/
def fullStore : State := { demo with store := { demo.store with pages := Vector.replicate 20 (.stored tag31 data31) } }

/-- A ring of 2. -/
def shortRing : State := { demo with pool := { demo.pool with ring := [0, 2] } }

/-- A ring with no complete buffer. -/
def emptyRing : State := { demo with pool := Pool.reset }

/-- The request stands in its slot, and the port hands it on. -/
theorem asks_hands (s : State) (p : Port) (code : Byte) (args : List Byte) :
    Hands (asks s p code args) p 0 (ask code args) code args := by
  refine ⟨?_, rfl, rfl⟩
  cases p <;> rfl

/-! ### WellFormed -/

/-- A transaction that does not open with 01h is no WRITE. -/
theorem test_ill_formed_write_refused :
    WellFormed (.requestWrite .panel (.whole [2, 7, 1, 0])) = false ∧
      WellFormed (.requestWrite .panel (.whole [])) = false ∧
      WellFormed (.requestWrite .panel (.whole [1, 7, 1, 0, 0])) = true := by decide

/-- A fault place outside the largest output picture is refused. -/
theorem test_ill_formed_fault_place_refused :
    WellFormed (.feedReadFault .full 2 1080 0) = false ∧ WellFormed (.feedReadFault .full 2 0 960) = false ∧
      WellFormed (.feedReadFault .full 2 1079 959) = true := by decide

/-- No word spells a command, and a word puts none in the queue. -/
theorem test_no_word_spells_a_command :
    decodeTableWord 8 1 = none ∧ State.reset.withFetchWord 8 1 = State.reset := ⟨rfl, rfl⟩

/-! ### The spec's worked numbers -/

/-- The windows of section 4.4: full area at zoom 250 in modes 1 and 2, SPLIT at zoom 250, and the page area of mode 1. -/
theorem test_windows :
    cameraWindow (1280, 800) 250 1920 1440 = { x0 := 1152, y0 := 960, w := 1536, h := 960, d := 1, step := 78643 } ∧
    cameraWindow (1920, 1080) 250 1920 1440 = { x0 := 1152, y0 := 1008, w := 1536, h := 864, d := 1, step := 52428 } ∧
    cameraWindow (640, 800) 250 1920 1440 = { x0 := 1460, y0 := 864, w := 920, h := 1148, d := 1, step := 94208 } ∧
    pageWindow .mode1 = { x0 := 768, y0 := 0, w := 2304, h := 2880, d := 2, step := 117964 } := by decide

/-- A glide from 100 to 1600 at step 100 reaches its target at the fifteenth commit. -/
theorem test_glide :
    (List.range 14).foldl (fun z _ => glideStep z 1600 100) 100 = 1500 ∧
      (List.range 15).foldl (fun z _ => glideStep z 1600 100) 100 = 1600 := by decide

/-- The boosts of R31: gain 24 and cored details of 1 and −1 give 2 and −1; gain 16 keeps 33 and −33. -/
theorem test_sharpen :
    sharpen 24 0 100 99 = 102 ∧ sharpen 24 0 100 101 = 99 ∧ sharpen 16 0 100 67 = 133 ∧ sharpen 16 0 100 133 = 67 := by decide

/-- The thumbnail cells of section 2.5. -/
theorem test_thumbnail : thumbnail [468000, 918000] = [130, 255] := by decide

/-- The motion score of section 3.7: 600 cells that change by 130 give 25. -/
theorem test_motion_score : (600 * 130) / 3072 = 25 ∧ thumbDifference (List.replicate 8 130) (List.replicate 8 0) = 0 := by
  decide

/-- The on-time of section 3.6 and the interval limits of R47. -/
theorem test_lamp_period :
    periodAfter 2083 (some 33333) = 2083 ∧ periodAfter 2083 (some 20000) = 1250 ∧ periodAfter 2083 (some 200000) = 12500 ∧
      periodAfter 2083 (some 19999) = 2083 ∧ periodAfter 2083 (some 200001) = 2083 ∧ 2083 * 7 / 10 = 1458 := by decide

/-- The filter sums of R96 and section 5.5, and the chroma of section 5.5. -/
theorem test_filters :
    fourTap 8 [0, 255, 255, 0] = 255 ∧ fourTap 8 [255, 0, 0, 255] = 0 ∧ fourTap 15 [200, 200, 40, 40] = 46 ∧
      twoTap 6 120 104 = 114 := by decide

/-- Every row of coefficients sums to 128 (R97). -/
theorem test_coefficients : (List.range 16).all (fun k => (coefficients k).sum == 128) = true := by decide

/-- The block totals of R169. -/
theorem test_block_totals :
    dataBlocks .full 0 0 = 2700 ∧ dataBlocks .window 1536 960 = 360 ∧ dataBlocks .window 240 148 = 9 ∧
      dataBlocks .window 120 180 = 6 := by decide

/-- The last block of a 240 × 148 export carries 5504 bytes (R169). -/
theorem test_last_block : (blockAddresses chan31 9).length = 5504 := by decide +kernel

/-- A header of 16 bytes and an entry of 20 (R194, R195). -/
theorem test_layout_lengths :
    (statusHeader 4 1 0).length = 16 ∧ entry0.bytes.length = 20 ∧ (demo.partResults .panel).length = 19 ∧
      demo.exportResults.length = 43 := by decide +kernel

/-- The reply image and the notice image of R191. -/
theorem test_images :
    replyImage { tag := 7, status := .ok, results := [9] } = [1, 7, 0, 1, 9] ∧
      noticeImage (.intakeResumed 258) true = [2, 0x11, 1, 4, 0, 0, 1, 2] := by decide

/-- The first serial after 65535 is 1 (R122). -/
theorem test_serial_wraps : ({ demo.store with lastSerial := 65535 } : Store).nextSerial = 1 ∧ demo.store.nextSerial = 32 := by
  decide +kernel

/-! ### The invariants meet a part at work -/

/-- The demo meets the invariants of the memory, the ports, the tenancy and the lesson. -/
theorem test_demo_is_sound_outside :
    demo.memoryOk ∧ demo.portsOk ∧ demo.tenancyOk ∧ demo.timelineOk ∧ demo.clockOk ∧ demo.paramsOk := by
  constructor
  · decide +kernel
  constructor
  · decide +kernel
  · exact ⟨by decide +kernel, by decide +kernel⟩

/-- The demo meets the invariants of the pages and the buffers. -/
theorem test_demo_is_sound_in_pages : demo.storeOk ∧ demo.rolesOk ∧ demo.writeBufferOk ∧ demo.pinsOk := by
  refine ⟨?_, ?_, ?_⟩ <;> decide +kernel

/-- The demo meets the invariants of the picture blocks. -/
theorem test_demo_is_sound_in_picture : demo.viewOk ∧ demo.namesOk ∧ demo.lightOk ∧ demo.feedOk := by
  decide +kernel

/-- A step of the demo with a waiting tick answers a next state. -/
theorem test_demo_steps : runs (step { demo with pending := [.millisecondTick none] }) = true ∧ runs (step demo) = true := by
  decide +kernel

/-! ### One step of each family -/

/-- A tick in the demo carries the clock into the next centisecond. -/
theorem test_tick_carries : (after (exec (.millisecondTick none) demo)).lesson.time = 101 ∧
    (after (exec (.millisecondTick none) demo)).link.time = 4 := by decide +kernel

/-- A WRITE takes a request, serving it replies, and a FETCH empties the port. -/
theorem test_write_serve_fetch :
    let s1 := after (exec (.requestWrite .desk (.whole [1, 7, 0x55, 0, 0])) State.reset)
    let s2 := after (exec (.lessonRead .desk) s1)
    let s3 := after (exec (.fetch .desk (.whole 40)) s2)
    (s1.port .desk).driven = [1] ∧ (s2.port .desk).attention = true ∧ (s3.port .desk).attention = false ∧
      (s3.port .desk).driven.take 4 = [1, 7, 0, 21] ∧ (s3.port .desk).order = [] := by decide +kernel

/-- A WRITE event by event: the request is taken at its last argument byte and carried out, and the acceptance byte is driven when
it is clocked; one that the presence line cuts short takes nothing and reads 00h. -/
theorem test_write_by_events :
    let s0 := after (exec (.requestWrite .desk .select) State.reset)
    let s1 := after (exec (.requestWrite .desk (.clock [1, 7, 0x55])) s0)
    let s2 := after (exec (.requestWrite .desk (.clock [0])) s1)
    let s3 := after (exec (.lessonRead .desk) s2)
    let s4 := after (exec (.requestWrite .desk (.clock [0, 0])) s3)
    let cut := after (exec (.presenceLost .desk) s1)
    (s1.port .desk).order = [] ∧ (s2.port .desk).order = [0] ∧ (s2.port .desk).driven = [] ∧
      (s3.port .desk).attention = true ∧ (s4.port .desk).driven = [1, 0] ∧
      (after (exec (.requestWrite .desk .deselect) s4)).ports.desk.write = none ∧
      ((after (exec (.requestWrite .desk (.clock [0, 0])) cut)).port .desk).driven = [0, 0] ∧
      ((after (exec (.requestWrite .desk (.clock [0, 0])) cut)).port .desk).order = [] := by decide +kernel

/-- A lesson starts, is numbered 1 and tells the other ports. -/
theorem test_lesson_start :
    let t := after (exec (.lessonStart .desk) (asks State.reset .desk 0x50 []))
    t.lesson.state = .running ∧ t.lesson.number = 1 ∧ t.timeline.entries.length = 1 ∧
      (t.port .panel).notices = [.lessonState .running .idle 1 0 .start] := by decide +kernel

/-- A pan by the holder moves the staged centre, and a glide request of another port is refused. -/
theorem test_gated_requests :
    (after (exec (.panTo .panel) (asks demo .panel 0x22 [0, 100, 0xFF, 0xFF]))).view.staged.cx = 100 ∧
    (after (exec (.panTo .panel) (asks demo .panel 0x22 [0, 100, 0xFF, 0xFF]))).view.staged.cy = 2879 ∧
    ((after (exec (.zoomTo .recorder) (asks demo .recorder 0x20 [1, 0, 0]))).port .recorder).slots[0] =
      .replied { tag := 7, status := .notHolder, results := [] } := by decide +kernel

/-- A claim that a higher port makes takes the view from a holder that does not hold fast. -/
theorem test_claim_preempts :
    let s : State := { demo with tenancy := { demo.tenancy with holder := some .desk, waiters := [] } }
    (after (exec (.claimView .panel) (asks s .panel 0x10 [0, 1, 0]))).tenancy =
      { holder := some .panel, holdFast := true, singleUse := false, idle := 0, waiters := [] } := by decide +kernel

/-- A freeze takes buffer 2, and the lowest FREE buffer refills the ring. -/
theorem test_freeze :
    let t := after (exec (.freeze .panel) (asks calm .panel 0x25 []))
    t.view.held = some 2 ∧ t.pool.ring = [4, 0, 1] ∧ (t.pool.bufRec 2).role = .held := by decide +kernel

/-- An output frame start at reset counts the frame and changes nothing in the view. -/
theorem test_output_frame_start :
    let t := after (exec .outputFrameStart State.reset)
    t.feed.frames = 1 ∧ t.view = State.reset.view ∧ t.timeline = State.reset.timeline := by decide +kernel

/-- A frame start takes the first buffer of the ring and one that follows abandons the frame. -/
theorem test_frame_start :
    let t := after (exec (.sensorFrameStart 5) State.reset)
    t.intake.writeBuffer = some 0 ∧ t.intake.startCount = 1 ∧ t.timer = 5 ∧
      (after (exec (.sensorFrameStart 33333) t)).intake.malformed = 1 ∧
      (after (exec (.sensorFrameStart 33333) t)).light.period = 2083 := by decide +kernel

/-- A capture stores the newest complete frame in the lowest EMPTY slot. -/
theorem test_capture_now :
    let t := after (exec (.captureNow .desk) (asks demo .desk 0x40 [0, 0x41]))
    (t.store.page 0).stateCode = 2 ∧ t.store.list = [2, 0] ∧ t.store.lastSerial = 32 ∧ (t.pool.bufRec 2).role = .page := by
  decide +kernel

/-- A discard of a page that is exported makes it DISCARDING, and the end of its export frees it. -/
theorem test_discard_during_export :
    let t := after (exec (.discard .desk) (asks demo .desk 0x41 [2, 0, 31]))
    let u := after (exec .exportLinkError t)
    (t.store.page 2).stateCode = 3 ∧ (u.store.page 2).stateCode = 0 ∧ (u.pool.bufRec 3).role = .free ∧
      u.link.state = .halted .linkError := by decide +kernel

/-- A completed block is counted, and the next pull serves the same channel. -/
theorem test_export_goes_on :
    let t := after (exec .exportDeliveryCompleted demo)
    t.link.state = .ready ∧ t.link.ex0.sent = 2 ∧
      (after (exec (.exportPull .opening) { t with params := { t.params with readyAge := 60000 } })).link.state =
        .delivering { channel := some .ex0, index := 2, kind := .pageData } := by decide +kernel

/-- Bytes clocked on the export link: the block goes on byte by byte, its last byte completes it, and a closing before that is a
link error, while a pull that is ignored carries nothing and leaves the block owed. -/
theorem test_export_by_bytes :
    let s := after (exec (.exportPull (.clock 2)) demo)
    let done := after (exec (.exportPull (.clock 5)) s)
    let again := after (exec (.exportPull .opening) s)
    s.link.out = [10, 11] ∧ s.link.owed = [12] ∧ done.link.out = [10, 11, 12] ∧ done.link.state = .ready ∧
      done.link.ex0.sent = 2 ∧ (after (exec (.exportPull .closing) done)).link.state = .ready ∧
      (after (exec (.exportPull .closing) s)).link.state = .halted .linkError ∧
      (after (exec (.exportPull (.clock 9)) again)).link.out = [] ∧ again.link.owed = [12] ∧
      (after (exec (.exportPull .closing) again)).link.transfer = .block := by decide +kernel

/-- The demo as the desk's CONTINUE finds EX0 STOPPED, with page 31's serial in slot 2 and the page in a buffer. -/
def stoppedWith (b : BufId) : State :=
  asks { chanIn (.used .stopped chan31) with
    store := demo.store.setPage 2 (.stored tag31 { data31 with buffer := b }) } .desk 0x62 [0]

/-- CONTINUE of a STOPPED channel pins the page's buffer; where another page of the same serial has taken the slot, it is NO_PAGE and
pins nothing (R12, R174). -/
theorem test_continue_of_another_page :
    let same := after (exec (.exportContinue .desk) (stoppedWith 3))
    let other := after (exec (.exportContinue .desk) (stoppedWith 2))
    same.link.ex0 = .used .active chan31 ∧ (same.pool.bufRec 3).pins = 2 ∧
      other.link.ex0 = .idle ∧ other.pool = demo.pool ∧
      (other.port .desk).slots[0] = .replied { tag := 7, status := .noPage, results := [] } := by decide +kernel

/-- The mixed summary of R189: a capture between the pool's answer and the page store's. The reply counts one more page STORED than
in the demo, and the FREE buffers of before the capture. -/
theorem test_capture_inside_a_summary :
    let s0 := asks (asks demo .panel 0x01 []) .desk 0x40 [0, 0x41]
    let s1 := after (exec (.partRead .panel (.ask .pool)) s0)
    let s2 := after (exec (.captureNow .desk) s1)
    let s3 := after (exec (.partRead .panel) s2)
    (s1.port .panel).slots[0] = .executing (ask 0x01 []) ∧ s1.pool.freeCount = 20 ∧ s2.pool.freeCount = 19 ∧
      (s3.port .panel).slots[0] = .replied { tag := 7, status := .ok, results :=
        [1, 1, 0, 2, 1, 1, 1, 0, 1, 0, 0, 0, 100, 2, 0, 0, 3, 20, 1] } ∧
      (s3.port .panel).answers = [] := by decide +kernel

/-- A status header clocked whole is no delivery and closes without an error; broken off, it halts the link. -/
theorem test_header_broken_off :
    let s := after (exec (.exportPull .opening) State.reset)
    let whole := after (exec (.exportPull (.clock 16)) s)
    let part := after (exec (.exportPull (.clock 15)) s)
    whole.link.out = statusHeader 4 0 0 ∧ (after (exec (.exportPull .closing) whole)).link.state = .ready ∧
      (after (exec (.exportPull .closing) part)).link.state = .halted .linkError := by decide +kernel

/-- The lesson second at which the counter of the demo expires, with a LESSON_PAUSE waiting at the desk. -/
def expiring : State :=
  let s := asks demo .desk 0x51 []
  { s with params := { s.params with timedInterval := 5 }, lesson := { s.lesson with timed := 4 } }

/-- A pause between a timed capture and its entry: the page has its lesson tags, and PAGE_CAPTURED is dropped (R159). -/
theorem test_pause_meets_the_capture :
    let t := after (exec (.timedCaptureExpiry (some .desk)) expiring)
    let u := after (exec (.timedCaptureExpiry none) expiring)
    t.lesson.state = .paused ∧ (t.store.page 0).stateCode = 2 ∧
      (t.timeline.entries.map fun e => e.what.kind) = [.lessonStarted, .lessonPaused] ∧
      u.lesson.state = .running ∧ (u.timeline.entries.map fun e => e.what.kind) = [.lessonStarted, .pageCaptured] := by
  decide +kernel

/-- A lesson held at 23:59:59.99 takes no timed capture (R151). -/
theorem test_held_clock_takes_no_capture :
    let held : State := { expiring with
      lesson := { expiring.lesson with hundredths := 99, seconds := 59, minutes := 59, hours := 23 } }
    held.lesson.time = 8639999 ∧ after (exec (.timedCaptureExpiry none) held) = held := by decide +kernel

/-- The demo with a fired report at the page store, a reservation that it follows or does not, and page-turn capture on. -/
def turning (reserved : Word) : State :=
  let s := pageIn (.reserved tag31 reserved)
  { s with
    store := { s.store with list := [], reports := [{ report := { buffer := 2, frame := 6, thumb := [] }, fire := true }] }
    params := { s.params with pageTurnCapture := true } }

/-- A fired report while a reservation stands: filled, the report is then a duplicate of that page; not filled, it is captured in
the lowest EMPTY record (R131, R132). -/
theorem test_fired_report_and_reservation :
    let filled := after (exec .pageStoreFrameReport (turning 5))
    let other := after (exec .pageStoreFrameReport (turning 6))
    filled.store.list = [2] ∧ (filled.port .panel).notices.getLast? = some (.captureSkipped .pageTurn .duplicate 6) ∧
      other.store.list = [0] ∧ (other.store.page 2).stateCode = 1 := by decide +kernel

/-- The demo at the stall limit with reservations in slots 2 and 5. -/
def stalling : State :=
  let s := pageIn (.reserved tag31 5)
  { s with
    intake := { s.intake with sinceCompletion := 29 }
    store := { s.store.setPage 5 (.reserved { tag31 with serial := 32 } 5) with list := [] } }

/-- An output frame start that makes the stall event: the four blocks and the notices in slot order (R28, R42, R53, R129). -/
theorem test_stall_inside_an_output_frame_start :
    let t := after (exec .outputFrameStart stalling)
    t.intake.stalled = true ∧ t.light.stalled = true ∧ t.motion.previous = none ∧
      t.store.page 2 = .empty ∧ t.store.page 5 = .empty ∧
      (t.port .desk).notices.drop (stalling.port .desk).notices.length =
        [.intakeStalled stalling.intake.lastCompleted stalling.intake.completed,
          .captureFailed 2 31 tag31.origin .stalled, .captureFailed 5 32 tag31.origin .stalled] := by decide +kernel

/-- The feed one frame begin before RUNNING (R85). -/
def lockingOn : State := { State.reset with feed := { Feed.reset true with starting := 4 } }

/-- The output frame start that finds the starting count at 4 enters RUNNING with its notice (R85, R87). -/
theorem test_output_frame_start_enters_running :
    let t := after (exec .outputFrameStart lockingOn)
    t.feed.state = .running ∧ (t.port .panel).notices = [.feedState .running .starting .mode1 .started] := by decide +kernel

/-- A holder that drops while no port waits leaves the view to nobody, and the glide ends (R115, R118). -/
theorem test_drop_of_a_lone_holder :
    let t := after (exec (.presenceLost .panel) calm)
    t.tenancy = nobody ∧ t.view.staged.target = calm.view.zoom ∧
      t.timeline.entries.getLast?.map (fun e => (e.what.kind, e.what.extra)) = some (.tenantChanged, 256 * 1 + 7) := by
  decide +kernel

/-- An unfired report fills the reservation it follows behind a lower-numbered one that it does not (R128). -/
theorem test_report_behind_an_unfollowed_reservation :
    let s : State := { turning 6 with store := { (turning 6).store.setPage 5 (.reserved tag31 5) with
      reports := (turning 6).store.reports.map fun x => { x with fire := false } } }
    let t := after (exec .pageStoreFrameReport s)
    (t.store.page 2).stateCode = 1 ∧ (t.store.page 5).stateCode = 2 ∧ t.store.list = [5] := by decide +kernel

/-- The output picture of mode 1 has 800 lines of 640 pairs, and none is sent in DETACHED (R82). -/
theorem test_output_bounds :
    let s : State := { State.reset with feed := Feed.reset true }
    s.outputPair 799 639 = some blackPair ∧ s.outputPair 800 0 = none ∧ s.outputPair 0 640 = none ∧
      State.reset.outputPair 0 0 = none ∧ State.reset.outputFrame = [] := by decide +kernel

/-! ### Witnesses: the hypotheses of every statement are met, clause by clause -/

/-- O2: an empty queue before and at the next pulse, and the events of the train at their last moments. -/
theorem test_witness_TimePassesInTheLampTrain :
    State.reset.pending = [] ∧ (State.reset.light.trainTime + 1 < (State.reset.light.pulse + 1) * State.reset.light.period) ∧
    (let l : Light := { Light.reset with trainTime := 2082 }
     (l.pulse + 1) * l.period ≤ l.trainTime + 1 ∧ l.trainTime ≤ (l.pulse + 1) * l.period) ∧
    (let l : Light := { Light.reset with trainTime := 1249 }
     l.lampHigh = true ∧ l.onTime < l.period ∧ l.trainTime ≤ l.pulse * l.period + l.onTime) := by decide

/-- O5 to O13: a state that meets the invariants and steps. -/
theorem test_witness_invariants :
    (demo.memoryOk ∧ demo.portsOk ∧ demo.tenancyOk ∧ demo.storeOk ∧ demo.pinsOk) ∧
      runs (step { demo with pending := [.exportDeliveryCompleted] }) = true :=
  ⟨⟨by decide +kernel, by decide +kernel, by decide +kernel, by decide +kernel, by decide +kernel⟩, by decide +kernel⟩

/-- O14: slots 0 and 1, lengths 0, 28 and 29, an absent port and a full one, a message cut short, other first bytes, and a WRITE
whose acceptance byte is still to be clocked. -/
theorem test_witness_WriteIsTakenOrRefused :
    let r := PortRec.reset true
    let busy := (asks demo .panel 0x50 []).port .panel
    let full : PortRec := { r with slots := Vector.replicate 4 (.waiting (ask 1 [])), order := [0, 1, 2, 3] }
    (r.present = true ∧ r.slots[0] = .free ∧ busy.slots[1] = .free ∧ ∀ j : Fin 4, j < 1 → busy.slots[j] ≠ .free) ∧
      ((List.replicate 28 (0 : Byte)).length = (28 : Byte).toNat ∧ (28 : Byte).toNat ≤ 28 ∧ 28 < (29 : Byte).toNat) ∧
      ((PortRec.reset false).present = false ∧ ∀ k : Fin 4, full.slots[k] ≠ .free) ∧
      ([7, 1] <+: (7 : Byte) :: 1 :: 0 :: [] ∧ (3 : Byte) ≠ 1 ∧ (3 : Byte) ≠ 2) ∧
      (((r.select).clock [1, 7, 0x55, 0]).write = some (.answered .accepted 0) ∧
        ((r.select).clock [1, 7, 0x55, 0]).fetch = none ∧ 1 ≤ [(0 : Byte)].length) := by decide

/-- A port with a reply in slot 1 behind a waiting request in slot 0. -/
def replied : PortRec :=
  { PortRec.reset true with
    slots := #v[.waiting (ask 1 []), .replied { tag := 7, status := .ok, results := [9] }, .free, .free], order := [0, 1] }

/-- A port with 16 notices. -/
def fullQueue : PortRec := { PortRec.reset true with notices := List.replicate 16 (.intakeResumed 1) }

/-- O15: a reply, notices alone, nothing, a full queue with a 17th notice, and no FETCH in progress. -/
theorem test_witness_FetchReturnsTheOldestItem :
    FirstWith (fun j : Fin 4 => replied.slots[j].isReplied = true) replied.order 1 ∧
      replied.slots[(1 : Fin 4)] = .replied { tag := 7, status := .ok, results := [9] } ∧
      (fullQueue.present = true ∧ (∀ j ∈ fullQueue.order, fullQueue.slots[j].isReplied = false) ∧
        fullQueue.notices = .intakeResumed 1 :: List.replicate 15 (.intakeResumed 1) ∧
        (Notice.intakeResumed 2).masked fullQueue.mask = false ∧ 4 + (Notice.intakeResumed 1).argBytes.length ≤ 8) ∧
      (PortRec.reset true).notices = [] ∧ (PortRec.reset true).fetch = none ∧ (PortRec.reset true).write = none :=
  ⟨⟨[0], [], rfl, by decide, by decide⟩, rfl, by decide, rfl, rfl, rfl⟩

/-- O16: an absent port, a mask that leaves the class out, 15 and 16 notices. -/
theorem test_witness_NoticeIsQueuedOrDropped :
    (PortRec.reset false).present = false ∧ (Notice.intakeResumed 1).classBit = some 1 ∧ (29 : BitVec 5).getLsbD 1 = false ∧
      (PortRec.reset true).mask.getLsbD 1 = true ∧ fullQueue.notices.length = 16 ∧ fullQueue.notices.tail.length = 15 := by
  decide

/-- O17: an EXECUTING slot, a WAITING one, and a WAITING one behind the slot that is replied. -/
theorem test_witness_ReplyIsPlacedAndTheNextRequestHandedOn :
    let r : PortRec := { replied with slots := replied.slots.set 1 (.executing (ask 2 [])) }
    FirstWith (fun j : Fin 4 => r.slots[j].isExecuting = true) r.order 1 ∧
      FirstWith (fun j : Fin 4 => replied.slots[j].waiting?.isSome = true) replied.order 0 ∧
      (∀ j ∈ replied.order, replied.slots[j].isExecuting = false) ∧
      FirstWith (fun i : Fin 4 => i ≠ 1 ∧ r.slots[i].waiting?.isSome = true) r.order 0 ∧
      (∀ i : Fin 4, i ≠ 1 → r.slots[i].isExecuting = false) :=
  ⟨⟨[0], [], rfl, by decide, by decide⟩, ⟨[], [1], rfl, by decide, by decide⟩, by decide,
    ⟨[], [1], rfl, by decide, by decide⟩, by decide⟩

/-- O18: lengths just outside the table, an empty CAPTURE and the code 05h. -/
theorem test_witness_BadLengthAndUnknownCodeAreAnsweredByThePort :
    ((asks demo .panel 0x02 [1, 0, 0, 0]).port .panel).current = some (0, ask 0x02 [1, 0, 0, 0]) ∧
      ((asks demo .panel 0x42 [1, 0]).port .panel).current = some (0, ask 0x42 [1, 0]) ∧
      Hands (asks demo .panel 0x40 []) .panel 0 (ask 0x40 []) 0x40 [] ∧
      ((asks demo .panel 0x05 []).port .panel).current = some (0, ask 0x05 []) := by decide +kernel

/-- O19: PORT_RESET of a port that holds, with and without a waiter, and of one that does not; a present line of each. -/
theorem test_witness_PortResetEmptiesThePort :
    (∀ s ∈ [calm, demo], Hands (asks s .panel 0x04 []) .panel 0 (ask 0x04 []) 0x04 [] ∧
      ((asks s .panel 0x04 []).port .panel).order.Nodup ∧ (asks s .panel 0x04 []).tenancyOk ∧
      s.tenancy.holder = some .panel ∧ s.tenancy.holder ≠ some .desk ∧ (s.port .desk).present = true ∧
      (s.port .panel).present = true ∧ s.tenancyOk) ∧
      calm.tenancy.waiters = [] ∧ demo.tenancy.waiters = [{ port := .desk, holdFast := false, singleUse := false }] ∧
      0 < demo.params.yieldDelay := by decide +kernel

/-- O20: SET_PARAM of every parameter with values at and beyond its range, and GET_PARAM. -/
theorem test_witness_ParametersAreWrittenAndRead :
    (∀ id ∈ (List.range 20).map byte1, ∀ args ∈ [[(0 : Byte), 0, 0, 0], [0, 0, 0, 31], [0, 0, 0, 32], [0xFF, 0xFF, 0xFF, 0xFF]],
      Hands (asks demo .desk 0x02 (id :: args)) .desk 0 (ask 0x02 (id :: args)) 0x02 (id :: args)) ∧
    (∀ id ∈ (List.range 20).map byte1, Hands (asks demo .desk 0x03 [id]) .desk 0 (ask 0x03 [id]) 0x03 [id]) ∧
    (asks demo .desk 0x02 [9, 0, 0, 0, 2]).tenancyOk ∧ ([Port.desk].Sublist (rankList 2)) :=
  ⟨fun _ _ _ _ => asks_hands _ _ _ _, fun _ _ => asks_hands _ _ _ _, by decide +kernel, by decide⟩

/-- O21: the seven reads, a PART_READ with no block asked, and one whose pool has answered. -/
theorem test_witness_SummaryAndBlockReadsReportTheRecords :
    (∀ code ∈ [(0x01 : Byte), 0x13, 0x55, 0x29, 0x33, 0x39, 0x64],
      Hands (asks demo .desk code []) .desk 0 (ask code []) code []) ∧
    (let s := asks demo .desk 0x01 []
     let t := s.askBlock .desk .pool
     (s.port .desk).answers = [] ∧ Hands t .desk 0 (ask 0x01 []) 0x01 [] ∧
      (∃ a ∈ (t.port .desk).answers, a.block = .pool) ∧ ∀ a ∈ (t.port .desk).answers, a.block ≠ .store) :=
  ⟨fun _ _ => asks_hands _ _ _ _, by decide +kernel⟩

/-- O22 and O23: a gated request of another port, one with no holder, and one of a single-use holder with a waiter. -/
theorem test_witness_GatedRequests :
    let free : State := { demo with tenancy := nobody }
    let single : State := { demo with tenancy := { demo.tenancy with singleUse := true } }
    (((asks demo .desk 0x27 []).port .desk).current = some (0, ask 0x27 []) ∧ lengthAllowed (ask 0x27 []) = true ∧
      demo.tenancy.holder = some .panel ∧ (Instr.blank .desk, 0x27) ∈ gatedCommands .desk ∧ (ask 0x27 []).code.toNat = 0x27) ∧
    ((asks free .desk 0x27 []).port .desk).current = some (0, ask 0x27 []) ∧ free.tenancy.holder = none ∧
    ((asks single .panel 0x27 []).port .panel).current = some (0, ask 0x27 []) ∧ single.tenancy.singleUse = true ∧
    runs (exec (.blank .panel) (asks calm .panel 0x27 [])) = true := by decide +kernel

/-- The demo with another idle time and hold-fast flag of its holder, and another rank order. -/
def idleAt (idle : Nat) (holdFast : Bool) (order : Nat) : State :=
  { demo with
    tenancy := { demo.tenancy with idle := idle, holdFast := holdFast }, params := { demo.params with rankOrder := order } }

/-- O24: a waiter that outranks the holder, an idle time one below and at the threshold, and a hold-fast holder's. -/
theorem test_witness_EvaluationActsUntilNoConditionHolds :
    (let s := idleAt 0 false 2
     s.tenancy.holder = some .panel ∧ s.tenancy.waiters = [{ port := .desk, holdFast := false, singleUse := false }] ∧
      (rankList s.params.rankOrder).idxOf Port.desk < (rankList s.params.rankOrder).idxOf Port.panel ∧
      s.tenancy.holdFast = false) ∧
    ¬ (rankList (idleAt 0 false 0).params.rankOrder).idxOf Port.desk < (rankList (idleAt 0 false 0).params.rankOrder).idxOf .panel ∧
    ¬ (idleAt 4999 false 0).params.yieldDelay ≤ (idleAt 4999 false 0).tenancy.idle ∧
    (idleAt 5000 false 0).params.yieldDelay ≤ (idleAt 5000 false 0).tenancy.idle ∧
    (let s := idleAt 120000 true 0
     max s.params.yieldDelay (s.params.holdFastLimit * 1000) ≤ s.tenancy.idle) ∧ calm.tenancy.waiters = [] := by decide +kernel

/-- O25: CLAIM_VIEW with arguments at 0, 1 and 2, of a holder, of a port that outranks it and of one that does not. -/
theorem test_witness_ClaimGivesPreemptsWaitsOrIsRefused :
    (∀ args ∈ [[(2 : Byte), 0, 0], [0, 2, 0], [0, 0, 2], [0, 0, 0], [1, 1, 1]], ∀ p : Port,
      Hands (asks demo p 0x10 args) p 0 (ask 0x10 args) 0x10 args) ∧
    demo.tenancy.holdFast = false ∧ (rankList 2).idxOf Port.desk < (rankList 2).idxOf Port.panel ∧
    (rankList demo.params.rankOrder).idxOf Port.panel ≤ (rankList demo.params.rankOrder).idxOf Port.recorder ∧
    (asks demo .recorder 0x10 [1, 1, 1]).tenancyOk ∧
    ([Port.desk, Port.recorder].Sublist (rankList demo.params.rankOrder)) :=
  ⟨fun _ _ _ => asks_hands _ _ _ _, by decide +kernel, by decide, by decide +kernel, by decide +kernel, by decide +kernel⟩

/-- O26: RELEASE_VIEW of another port and of a holder with and without a waiter, and WITHDRAW_CLAIM. -/
theorem test_witness_ReleaseAndWithdrawGiveUp :
    (∀ code ∈ [(0x11 : Byte), 0x12], ∀ p : Port, Hands (asks demo p code []) p 0 (ask code []) code []) ∧
      demo.tenancy.holder ≠ some .desk ∧ calm.tenancy.waiters = [] ∧ demo.tenancy.waiters ≠ [] :=
  ⟨fun _ _ _ => asks_hands _ _ _ _, by decide +kernel, by decide +kernel, by decide +kernel⟩

/-- O27: the tick at which an ordinary holder and a hold-fast holder reach their thresholds, and a part with nothing to do. -/
theorem test_witness_MillisecondTickRaisesTheCounts :
    (let s := idleAt 4999 false 0
     s.tenancy.holder = some .panel ∧ s.tenancy.waiters = [{ port := .desk, holdFast := false, singleUse := false }] ∧
      s.tenancy.holdFast = false ∧ s.params.yieldDelay ≤ min 4294967295 (s.tenancy.idle + 1) ∧
      (rankList s.params.rankOrder).idxOf Port.panel ≤ (rankList s.params.rankOrder).idxOf Port.desk) ∧
    (let s := idleAt 119999 true 2
     s.tenancy.holdFast = true ∧ s.params.holdFastLimit ≠ 0 ∧
      max s.params.yieldDelay (s.params.holdFastLimit * 1000) ≤ min 4294967295 (s.tenancy.idle + 1)) ∧
    State.reset.tenancy.waiters = [] ∧ State.reset.lesson.state ≠ .running ∧ State.reset.link.state = .ready := by
  decide +kernel

/-- O28 to O30: the view requests of a holder, pages 31 and 32 of slots 2, 19 and 20, a frozen and a live staged view, and a
ring of 3 with a FREE buffer, a ring of 2 and one with no complete buffer. -/
theorem test_witness_view_requests :
    (∀ x ∈ [((0x20 : Byte), [(0xFF : Byte), 0xFF, 0xFF]), (0x21, [0x80, 0, 100]), (0x22, [0xFF, 0xFF, 0, 0]),
        (0x23, [0x80, 0, 0x7F, 0xFF]), (0x27, []), (0x28, []), (0x24, [3, 0, 0, 0]), (0x24, [0, 0, 0, 0]),
        (0x24, [1, 2, 0, 31]), (0x24, [2, 2, 0, 32]), (0x24, [1, 20, 0, 31]), (0x25, []), (0x26, [])],
      Hands (asks calm .panel x.1 x.2) .panel 0 (ask x.1 x.2) x.1 x.2) ∧
    Holding calm .panel ∧ Holding demo .panel ∧ demo.store.page 2 = .stored tag31 data31 ∧ tag31.serial = 31 ∧
    NewestComplete demo.pool 2 (info 6) ∧ (∀ x ∈ emptyRing.pool.ring, (emptyRing.pool.bufRec x).complete = none) ∧
    shortRing.pool.ring.length ≤ 2 ∧ (demo.pool.ring.length = 3 ∧ 2 ∈ demo.pool.ring ∧ (demo.pool.bufRec 4).role = .free ∧
      ∀ x : BufId, x < 4 → x ≠ 2 → (demo.pool.bufRec x).role ≠ .free) ∧
    demo.view.staged.frozen = false ∧ 0 < (demo.pool.bufRec 2).pins ∧ (demo.pool.bufRec 1).pins = 0 :=
  ⟨fun _ _ => asks_hands _ _ _ _, by decide +kernel, by decide +kernel, by decide +kernel, rfl,
    ⟨[0, 1], [], by decide +kernel, by decide +kernel, by decide⟩, by decide +kernel, by decide +kernel, by decide +kernel,
    by decide +kernel, by decide +kernel, by decide +kernel⟩

/-- O31: the window of the demo's commit lies inside the frame. -/
theorem test_witness_CommitComputesTheActiveView :
    (windowOf 1280 800 100 1920 1440).w ≤ 3840 ∧ (windowOf 1280 800 100 1920 1440).h ≤ 2880 ∧
      windowOf 1280 800 1600 3839 2879 = cameraWindow (1280, 800) 1600 3839 2879 := by decide

/-- O32 and O33: a glide step above 0, and a DETACHED feed with no pins and no stall due. -/
theorem test_witness_commits :
    0 < (1 : Nat) ∧ State.reset.feed.state = .detached ∧ State.reset.feed.first.pin = none ∧
      State.reset.feed.second.pin = none ∧ min 255 (State.reset.intake.sinceCompletion + 1) < State.reset.params.stallLimit := by
  decide +kernel

/-- O34: the roles of the demo, a feed RUNNING and one in STARTING at 3 and at 4. -/
theorem test_witness_FrameBeginSettlesTheFeed :
    demo.rolesOk ∧ demo.feed.state = .running ∧ (Feed.reset true).state = .starting ∧ (3 : Nat) < 4 ∧ (4 : Nat) ≤ 4 ∧
      State.reset.feed.first.pin = none := by
  refine ⟨by decide +kernel, by decide +kernel, by decide, by decide, by decide, by decide +kernel⟩

/-- O35 and O36: the sense line at both levels, modes 0 to 3, and areas that show a picture, full and in SPLIT. -/
theorem test_witness_feed_events :
    State.reset.feed.state = .detached ∧ State.reset.feed.sense = false ∧ demo.feed.state ≠ .detached ∧ demo.feed.sense = true ∧
      (∀ m ∈ [(0 : Byte), 1, 2, 3], Hands (asks calm .panel 0x38 [m]) .panel 0 (ask 0x38 [m]) 0x38 [m]) ∧
      Holding calm .panel ∧ demo.feed.mode = .mode1 ∧
      demo.view.active.source ≠ .split ∧ demo.feed.first.pin = some 2 ∧ demo.feed.first.fault = none := by decide +kernel

/-- The demo in SPLIT, with a picture on the left and a fault on the right at line 5, pair 400. -/
def splitDemo : State :=
  { demo with
    view := { demo.view with active := { demo.view.active with source := .split }, pageArea := some (pageWindow .mode1) }
    feed := { demo.feed with second := { pin := some 3, showing := .blackFault, fault := some { line := 5, pair := 400 } } } }

/-- O37: the first and last lines and pairs of mode 1 and those just outside, a full area that shows a picture with decimation 2,
a window of decimation 1, a black area, and in SPLIT the pairs on both sides of the middle and of a fault. -/
theorem test_witness_OutputPictureIsTheScaledBuffer :
    (fullArea demo.feed.mode = (1280, 800) ∧ (799 : Nat) < 800 ∧ (639 : Nat) < 1280 / 2 ∧ (800 : Nat) ≤ 800 ∧ 1280 / 2 ≤ 640) ∧
    (State.reset.feed.state = .detached ∧ demo.feed.state ≠ .detached) ∧
    (InArea demo (1280 / 2) 639 demo.feed.first (some demo.view.camera) 639 ∧ demo.feed.first.pin = some 2 ∧
      demo.feed.first.showing = .picture ∧ demo.view.camera.d = 2 ∧ (cameraWindow (1280, 800) 250 1920 1440).d = 1) ∧
    ((Feed.reset true).first.showing = .blackState ∧ (Feed.reset true).state ≠ .detached) ∧
    (InArea splitDemo (1280 / 2) 319 splitDemo.feed.first (some splitDemo.view.camera) 319 ∧
      InArea splitDemo (1280 / 2) 320 splitDemo.feed.second splitDemo.view.pageArea 0 ∧
      InArea splitDemo (1280 / 2) 400 splitDemo.feed.second splitDemo.view.pageArea 80 ∧
      splitDemo.view.pageArea = some (pageWindow .mode1) ∧ (pageWindow .mode1).d = 2 ∧ splitDemo.feed.second.pin = some 3 ∧
      splitDemo.feed.second.showing = .blackFault ∧ splitDemo.feed.second.fault = some { line := 5, pair := 400 }) := by
  refine ⟨by decide, by decide +kernel, ⟨.inl ⟨by decide +kernel, rfl, rfl, rfl⟩, by decide +kernel⟩, by decide,
    .inr (.inl ⟨rfl, by decide, rfl, rfl, rfl⟩), .inr (.inr ⟨rfl, by decide, rfl, rfl, rfl⟩),
    .inr (.inr ⟨rfl, by decide, rfl, rfl, rfl⟩), by decide +kernel⟩

/-- O38: a first frame, a frame in hand, intervals at the limits, and a ring with and without a buffer to write. -/
theorem test_witness_FrameStartNumbersAndTimesTheFrame :
    State.reset.intake.lastStart = none ∧ demo.intake.lastStart = some 100 ∧ demo.intake.state = .receiving ∧
      20000 ≤ (20000 : Word).toNat ∧ (19999 : Word).toNat < 20000 ∧
      FirstWith (fun x => (demo.pool.bufRec x).pins = 0 ∧ ∀ i, ¬ NewestComplete demo.pool x i) demo.pool.ring 0 ∧
      (∀ x ∈ [(2 : BufId)], (demo.pool.bufRec x).pins ≠ 0 ∨ ∃ i, NewestComplete demo.pool x i) := by
  refine ⟨by decide +kernel, by decide +kernel, by decide +kernel, by decide, by decide,
    ⟨[], [1, 2], by decide +kernel, ⟨by decide +kernel, ?_⟩, by simp⟩, fun x hx => .inl ?_⟩
  · rintro i ⟨_, _, _, h, _⟩
    have : (demo.pool.bufRec 0).complete = none := by decide +kernel
    rw [this] at h
    cases h
  · simp at hx
    subst hx
    decide +kernel

/-- A frame in reception at a place in the frame. -/
def atLine (lines pixels : Nat) (isOpen : Bool) : State :=
  { demo with intake := { demo.intake with
      lineCount := lines, pixelCount := pixels, lineOpen := isOpen, above := List.replicate 1920 blackPair
      held := List.replicate 1920 blackPair, incoming := List.replicate 1920 blackPair } }

/-- O39 to O41: SEEKING, the line and pixel events at their first and last places, lines 1, 2879 and 2880, and the causes of a
malformed frame. -/
theorem test_witness_sensor_events :
    State.reset.intake.state = .seeking ∧
      ((atLine 2879 0 false).intake.state = .receiving ∧ (atLine 2879 0 false).intake.lineOpen = false ∧ 2879 < 2880) ∧
      ((atLine 2879 3838 true).intake.pixelCount + 2 ≤ 3840 ∧ (atLine 2879 3838 true).intake.sums.length = 3072) ∧
      ((atLine 0 3840 true).intake.pixelCount = 3840 ∧ (atLine 0 3840 true).intake.lineCount = 0) ∧
      ((atLine 2879 3840 true).intake.lineCount = 2878 + 1 ∧ (2878 : Nat) ≤ 2878 ∧ demo.intake.writeBuffer = some 0 ∧
        (atLine 2879 3840 true).intake.above.length = 1920 ∧
        (atLine 2879 3840 true).intake.incoming = (List.replicate 1920 blackPair).reverse) ∧
      ((atLine 2879 3840 true).memoryOk ∧ (atLine 2880 3840 false).memoryOk) ∧
      ((atLine 2880 3840 false).intake.lineCount = 2880 ∧ (atLine 2880 3840 false).intake.frameEnd = false) ∧
      (3840 < (atLine 5 3840 true).intake.pixelCount + 2 ∧ (atLine 5 3838 true).intake.pixelCount ≠ 3840) := by
  decide +kernel

/-- O33, O34 and O43: an output frame start at which the stall event is due, with two reservations, and one at which it is not, with
the feed about to enter RUNNING, and one in DETACHED. -/
theorem test_witness_output_frame_starts :
    StallDue stalling ∧ stalling.store.page 2 = .reserved tag31 5 ∧
      (lockingOn.rolesOk ∧ lockingOn.feed.state = .starting ∧ 4 ≤ lockingOn.feed.starting ∧ lockingOn.feed.first.pin = none ∧
        lockingOn.feed.second.pin = none ∧ ¬ StallDue lockingOn) ∧
      State.reset.feed.state = .detached := by decide +kernel

/-- O42 and O43: a frame that has ended, and a count one below the stall limit. -/
theorem test_witness_completion_and_stall :
    let s : State := { demo with intake := { demo.intake with frameEnd := true, sinceCompletion := 29 } }
    s.intake.state = .receiving ∧ s.intake.frameEnd = true ∧ s.intake.writeBuffer = some 0 ∧ s.intake.stalled = false ∧
      s.params.stallLimit ≤ min 255 (s.intake.sinceCompletion + 1) ∧ (after (exec .stallEvent s)).intake.stalled = true ∧
      (after (exec .frameCompletion s)).pool.ring = [1, 2, 0] := by decide +kernel

/-- O44: the picture requests of the holder, with arguments at and beyond their values. -/
theorem test_witness_PictureRequestsSetTheirFields :
    (∀ x ∈ [((0x30 : Byte), [(4 : Byte)]), (0x30, [3]), (0x31, [3, 0, 0]), (0x31, [2, 0x80, 0]), (0x31, [2, 1, 0]), (0x31, [0, 0, 0]),
        (0x31, [1, 0, 0]), (0x32, [0, 2]), (0x32, [255, 1]), (0x32, [0, 0])],
      Hands (asks calm .panel x.1 x.2) .panel 0 (ask x.1 x.2) x.1 x.2) ∧ Holding calm .panel ∧
      (-32768 : Int) = ((0x80 : Byte) ++ (0 : Byte) : BitVec 16).toInt :=
  ⟨fun _ _ => asks_hands _ _ _ _, by decide +kernel, by decide⟩

/-- A report of the demo's buffer 2, with a grey thumbnail. -/
def report6 : Report := { buffer := 2, frame := 6, thumb := List.replicate 3072 128 }

/-- The same on its way to the motion meter, of a frame that ends no stall. -/
def sent6 : MeterReport := { report := report6, endsStall := false }

/-- A report completed before a stall and taken after it leaves the report that ends the stall without a score (R29, R53). -/
theorem test_no_score_joins_the_frames_beside_a_stall :
    let late : MeterReport := { report := report6, endsStall := false }
    let first : MeterReport := { report := { report6 with thumb := List.replicate 3072 0 }, endsStall := true }
    let s : State := { demo with motion := ({ Motion.reset with reports := [late, first], score := some 3 }).stall }
    let t := after (exec .motionFrameReport (after (exec .motionFrameReport s)))
    t.motion.score = none ∧ t.motion.detector = .watching ∧ t.motion.previous = some first.report.thumb ∧
      t.store.reports.map (fun x => x.fire) = [false, false] := by decide +kernel

/-- O45 and O46: a report at each meter, the runs one below 30, the first report, and the detector's rows at their bounds. -/
theorem test_witness_reports :
    let light : Light := { Light.reset with reports := [report6], e := 255, darkRun := 29 }
    let motion : Motion := { Motion.reset with reports := [sent6], previous := some (List.replicate 3072 104) }
    let s : State := { demo with light := light, motion := motion }
    (s.light.reports = [report6] ∧ s.light.stalled = false ∧ s.light.mode = .auto ∧ report6.thumb.length = 3072 ∧
      30 ≤ s.light.darkRun + 1 ∧ 0 < s.view.camera.w ∧ s.view.camera.x0 + s.view.camera.w ≤ 3840 ∧ 0 < s.view.camera.h ∧
      s.view.camera.y0 + s.view.camera.h ≤ 2880) ∧
    (s.motion.reports = [sent6] ∧ (List.replicate 3072 (104 : Byte)).length = 3072 ∧ s.motion.detector = .watching ∧
      s.params.motionHigh ≤ 24 ∧ ¬ s.params.motionLow ≤ 5 ∧ 6 + 1 < s.params.settleFrames ∧ s.params.settleFrames ≤ 7 + 1) ∧
    State.reset.motion.previous = none ∧ runs (exec .autoLampStep s) = true ∧ runs (exec .motionFrameReport s) = true := by
  decide +kernel

/-- O47 to O49: CAPTURE with arguments 0, 1 and 2 and a bad label, the lowest EMPTY slot and the serial drawn, a full store, a
reservation, and an expiry. -/
theorem test_witness_captures :
    (∀ args ∈ [[(0 : Byte), 0x20], [1, 0x7E], [2], [0, 0x7F], [1, 0x1F]],
      Hands (asks demo .desk 0x40 args) .desk 0 (ask 0x40 args) 0x40 args) ∧
    LowestEmpty demo.store 0 ∧ SerialDrawn demo.store 32 ∧ (∀ j : SlotId, fullStore.store.page j ≠ .empty) ∧
    ((pageIn (.reserved tag31 5)).store.page 2 = .reserved tag31 5 ∧ 1 ≤ ((6 : Word) - 5).toNat ∧
      ((5 : Word) - 5).toNat = 0 ∧ (∀ j : SlotId, 2 < j → (pageIn (.reserved tag31 5)).store.page j = .empty)) ∧
    ((demo.pool.bufRec 2).role = .ring ∧ (demo.pool.bufRec 2).complete = some (info 6) ∧ (info 6).frame = report6.frame) ∧
    (demo.lesson.state = .running ∧ demo.lesson.time < 8639999 ∧ (5 : Nat) ≠ 0 ∧ (5 : Nat) ≤ 4 + 1) := by
  refine ⟨fun _ _ => asks_hands _ _ _ _, ⟨by decide +kernel, by decide⟩, ⟨0, by decide +kernel, by decide +kernel, by simp⟩,
    by decide +kernel, by decide +kernel, by decide +kernel, by decide +kernel⟩

/-- O48: a reservation that the report follows behind a lower-numbered one that it does not. -/
theorem test_witness_reservation_behind_another :
    let s := { turning 6 with store := (turning 6).store.setPage 5 (.reserved tag31 5) }
    s.store.page 5 = .reserved tag31 5 ∧ 1 ≤ ((6 : Word) - 5).toNat ∧ ((6 : Word) - 6).toNat = 0 ∧
      ∀ j : SlotId, j < 5 → j = 2 ∨ s.store.page j = .empty := by decide +kernel

/-- O48 and O49: a fired report with a reservation that it fills and one that it leaves, an expiry with a LESSON_PAUSE that waits, and
the state after its capture where the store is full. -/
theorem test_witness_fired_reports_and_pauses :
    ((turning 5).lesson.state = .running ∧ (turning 5).params.pageTurnCapture = true ∧
      (turning 5).store.page 2 = .reserved tag31 5 ∧ 1 ≤ ((6 : Word) - 5).toNat ∧ (info 6).thumb = [] ∧
      1 ≤ (turning 5).params.duplicateLimit ∧ ((turning 5).pool.bufRec 2).role = .ring ∧ (turning 5).store.page 0 = .empty) ∧
    LeavesReserved (turning 6) { buffer := 2, frame := 6, thumb := [] } 6 ∧
    Hands expiring .desk 0 (ask 0x51 []) 0x51 [] ∧ expiring.lesson.timed + 1 = expiring.params.timedInterval ∧
    TimedCaptured fullStore (fullStore.postAll (.captureSkipped .timed .storeFull 0) none) ∧
    (∃ pool : Pool, Taken demo.pool 2 .page pool) := by
  refine ⟨by decide +kernel, .inl (by decide), ⟨rfl, rfl, rfl⟩, by decide, .inl ⟨by decide +kernel, rfl⟩,
    ⟨_, ⟨by decide +kernel, .inr ⟨4, by decide, by decide +kernel, by decide +kernel, rfl⟩⟩⟩⟩

/-- O50 and O51: DISCARD, LABEL, PAGE_READ and THUMB_READ of slots 0, 2, 19, 20 and 255, and a record in each state. -/
theorem test_witness_page_requests :
    (∀ x ∈ [((0x41 : Byte), [(20 : Byte), 0, 31]), (0x41, [19, 0, 31]), (0x41, [2, 0, 31]), (0x42, [2, 0, 31]),
        (0x42, [2, 0, 31, 0x1F]), (0x43, [19]), (0x43, [20]), (0x44, [255, 47]), (0x44, [2, 48]), (0x44, [2, 0])],
      Hands (asks demo .desk x.1 x.2) .desk 0 (ask x.1 x.2) x.1 x.2) ∧
    demo.store.page 19 = .empty ∧ demo.store.page 2 = .stored tag31 data31 ∧ 1 ≤ (demo.pool.bufRec 3).pins ∧
    (pageIn (.reserved tag31 5)).store.page 2 = .reserved tag31 5 ∧
    (pageIn (.discarding tag31 data31 .desk)).store.page 2 = .discarding tag31 data31 .desk ∧
    (∀ v ∈ [demo.view.staged, demo.view.active], v.source = .camera) ∧ 3 ≤ demo.pool.ring.length ∧
    NewestComplete demo.pool 2 (info 6) :=
  ⟨fun _ _ => asks_hands _ _ _ _, by decide +kernel, by decide +kernel, by decide +kernel, by decide +kernel, by decide +kernel,
    by decide +kernel, by decide +kernel, ⟨[0, 1], [], by decide +kernel, by decide +kernel, by decide⟩⟩

/-- O52: every lesson request in every lesson state. -/
theorem test_witness_LessonRequestsChangeTheState :
    ∀ state ∈ [LessonState.idle, .running, .paused, .closing], ∀ code ∈ [(0x50 : Byte), 0x51, 0x52, 0x53, 0x54],
      Hands (asks (lessonIn state) .desk code []) .desk 0 (ask code []) code [] ∧ (lessonIn state).lesson.state = state ∧
        (lessonIn state).lesson.number ≤ 65535 := fun _ _ _ _ => ⟨asks_hands _ _ _ _, rfl, by show 1 ≤ 65535; decide⟩

/-- A running lesson at a time, at its ninth tick. -/
def clockAt (hours hundredths : Nat) : State :=
  let lesson : Lesson := { state := .running, number := 1, hundredths := hundredths, seconds := 59, minutes := 59, hours := hours
                           ticks := 9, timed := 599 }
  { demo with lesson := lesson, params := { demo.params with timedInterval := 600 } }

/-- O53: the clock in range, at a carry, at the last centisecond and one before it, and a counter about to expire. -/
theorem test_witness_LessonClockCountsTime :
    (clockAt 23 99).clockOk ∧ (clockAt 23 99).lesson.time = 8639999 ∧ (clockAt 23 98).lesson.time < 8639999 ∧
      (clockAt 22 99).lesson.time < 8639999 ∧ (clockAt 22 99).lesson.ticks = 9 ∧ (clockAt 22 99).params.timedInterval ≠ 0 ∧
      (clockAt 22 99).params.timedInterval ≤ (clockAt 22 99).lesson.timed + 1 ∧ (lessonIn .paused).clockOk := by decide +kernel

/-- O54: lists of 255 and 256 entries, and an entry 100 and 101 centiseconds old. -/
theorem test_witness_TimelineTakesEntries :
    (List.replicate 255 entry0).length < 256 ∧ 256 ≤ (List.replicate 256 entry0).length ∧ demo.timeline.entries = [] ++ [entry0] ∧
      200 ≤ entry0.time + 100 ∧ entry0.time + 100 < 201 ∧ entry0.isSealed = false := by
  decide +kernel

/-- O55: a halted link, a link that delivers, a ready timeline, a channel to choose and one that waits. -/
theorem test_witness_PullAnswersByLinkState :
    (linkIn (.halted .timeout)).link.state = .halted .timeout ∧ (linkIn .ready).link.state = .ready ∧
      TimelineReady (linkIn .ready) ∧ ¬ TimelineReady { linkIn .ready with timeline := Timeline.reset } ∧
      Chosen demo.link .ex0 ∧ (∀ c, ¬ Serving Link.reset c) ∧ demo.link.chan .ex0 = .used .active chan31 ∧ chan31.sent = 1 ∧
      (streamByte chan31 71039 < 536870912 ∧ streamBytes chan31 = 71040) := by
  refine ⟨rfl, rfl, ⟨[], [], entry0, rfl, by simp, rfl, .inr (.inl (by decide))⟩, ?_, ?_, ?_, rfl, rfl, by decide +kernel⟩
  · rintro ⟨a, b, c, h, _⟩
    simp [Timeline.reset] at h
  · refine .inl ⟨⟨chan31, rfl, rfl, by decide⟩, ?_⟩
    rintro e he ⟨d, hd, _⟩
    cases e <;> simp at he
    cases hd
  · rintro c ⟨d, hd⟩
    cases c <;> cases hd

/-- O55, its bytes clocked and its closing, and O57's: a block with bytes owed, one clocked whole, a header with bytes left and one
without, a transfer that carries nothing, and none. -/
theorem test_witness_transfers :
    (demo.link.transfer = .block ∧ demo.link.owed = [10, 11, 12] ∧ (2 : Nat) < demo.link.owed.length ∧
      demo.link.owed.length ≤ 3) ∧
    (after (exec .exportDeliveryCompleted demo)).link.owed = [] ∧
    (after (exec (.exportPull .opening) demo)).link.transfer = .nothing ∧
    (after (exec (.exportPull .opening) State.reset)).link.transfer = .header (statusHeader 4 0 0) ∧
    statusHeader 4 0 0 ≠ [] ∧ State.reset.link.transfer = .closed := by decide +kernel

/-- O56: READY, a block that is not the last and one that is, of a channel ACTIVE and STOPPING, and a batch with and without a
loss. -/
theorem test_witness_CompletedDeliveryIsCounted :
    (∀ b, (linkIn .ready).link.state ≠ .delivering b) ∧ chan31.sent + 1 < chan31.total ∧ (9 : Nat) + 1 = chan31.total ∧
      demo.link.state = .delivering { channel := some .ex0, index := 1, kind := .pageData } ∧
      (chanIn (.used .stopping chan31)).link.chan .ex0 = .used .stopping chan31 ∧
      ({ entry0 with isSealed := true } : Entry).isSealed = true ∧ (lessonIn .closing).lesson.state = .closing := by
  refine ⟨(by intro b h; cases h), by decide, by decide, rfl, rfl, rfl, rfl⟩

/-- O57: a delivery one tick before its limit and at it, a halted link, and a present recorder. -/
theorem test_witness_HaltEventsStopTheLink :
    demo.link.time + 1 < demo.params.exportTimeout ∧ (99 : Nat) + 1 = demo.params.exportTimeout ∧
      (demo.port .recorder).present = true ∧ demo.tenancy.holder ≠ some .recorder ∧
      (linkIn .ready).link.state.block? = none := by decide +kernel

/-- O58 and O59: the export requests with arguments at and beyond their values, and a channel in each state. -/
theorem test_witness_export_requests :
    (∀ x ∈ [((0x60 : Byte), [(2 : Byte), 2, 0, 31, 0, 0]), (0x60, [1, 2, 0, 31, 1, 1]), (0x60, [0, 2, 0, 31, 0, 0]),
        (0x60, [1, 20, 0, 31, 0, 0]), (0x60, [1, 2, 0, 32, 0, 0]), (0x61, [2]), (0x61, [0]), (0x62, [2]), (0x62, [0]), (0x63, [])],
      Hands (asks demo .desk x.1 x.2) .desk 0 (ask x.1 x.2) x.1 x.2) ∧
    demo.link.chan .ex0 = .used .active chan31 ∧ demo.link.chan .ex1 = .idle ∧
    (∀ phase ∈ [Phase.active, .stopping, .stopped, .halted, .done],
      (chanIn (.used phase chan31)).link.chan .ex0 = .used phase chan31) ∧
    (linkIn (.halted .linkDown)).link.state = .halted .linkDown ∧ (demo.port .recorder).present = true ∧
    (PortRec.reset false).present = false ∧
    (∀ b ∈ [(2 : BufId), 3], Hands (stoppedWith b) .desk 0 (ask 0x62 [0]) 0x62 [0] ∧
      (stoppedWith b).link.chan .ex0 = .used .stopped chan31 ∧
      (stoppedWith b).store.page chan31.slot = .stored tag31 { data31 with buffer := b } ∧ tag31.serial = chan31.serial) ∧
    chan31.buffer = 3 :=
  ⟨fun _ _ => asks_hands _ _ _ _, rfl, rfl, fun _ _ => rfl, rfl, rfl, rfl,
    fun _ _ => ⟨asks_hands _ _ _ _, by rfl, by rfl, rfl⟩, rfl⟩

/-- O60: a pin count of 1 and of 2, a RETIRING buffer, and a DISCARDING page with one pin. -/
theorem test_witness_PinReleaseFreesTheBuffer :
    let s := pageIn (.discarding tag31 data31 .desk)
    (s.pool.bufRec 3).pins = 1 ∧ (s.pool.bufRec 3).role = .page ∧ s.store.page 2 = .discarding tag31 data31 .desk ∧
      data31.buffer = 3 ∧ s.rolesOk ∧ 3 ≤ s.pool.ring.length ∧ shortRing.pool.ring.length < 3 ∧
      ((s.pool.setRec 5 { role := .retiring, pins := 1, complete := none }).bufRec 5).role = .retiring := by
  refine ⟨by decide +kernel, by decide +kernel, by decide +kernel, by decide, by decide +kernel, by decide +kernel, by decide +kernel,
    by decide +kernel⟩

end Sys2Proof.Tests
end

/-! SUPPORT. Pool facts: what each operation of the buffer pool leaves of the records and of the ring list, and the ring's own invariant. -/
namespace Sys2Proof.Machine

/-! ### Records after an operation -/

/-- A buffer that is found FREE is FREE. -/
theorem Pool.role_of_lowestFree {p : Pool} {b : BufId} (h : p.lowestFree = some b) : (p.bufRec b).role = .free := by
  simpa using List.find?_some h

/-- The pool has a lowest FREE buffer exactly where one is FREE (R6). -/
theorem Pool.lowestFree_eq_none {p : Pool} : p.lowestFree = none ↔ ∀ b, (p.bufRec b).role ≠ .free := by
  simp [Pool.lowestFree]

theorem Pool.bufRec_joinRing (p : Pool) (b c : BufId) :
    (p.joinRing b).bufRec c = if c = b then { p.bufRec b with role := .ring, complete := none } else p.bufRec c :=
  Pool.bufRec_setRec p b c _

@[simp] theorem Pool.ring_joinRing (p : Pool) (b : BufId) : (p.joinRing b).ring = b :: p.ring := rfl

/-- A buffer that is freed with a full ring stays FREE (R6, R11). -/
theorem Pool.setFree_full (p : Pool) (b : BufId) (h : 3 ≤ p.ring.length) :
    p.setFree b = p.setRec b { p.bufRec b with role := .free, complete := none } := by
  simp [Pool.setFree, Nat.not_lt.2 h]

/-- A buffer that is freed with a short ring joins its front (R6, R13). -/
theorem Pool.setFree_short (p : Pool) (b : BufId) (h : p.ring.length < 3) : p.setFree b = p.joinRing b := by
  simp [Pool.setFree, Pool.joinRing, h]

/-- Freeing a buffer leaves the other records. -/
theorem Pool.bufRec_setFree_other (p : Pool) {b c : BufId} (h : c ≠ b) : (p.setFree b).bufRec c = p.bufRec c := by
  rcases Nat.lt_or_ge p.ring.length 3 with hs | hs
  · rw [p.setFree_short b hs, Pool.bufRec_joinRing, if_neg h]
  · rw [p.setFree_full b hs, Pool.bufRec_setRec_other _ _ _ _ h]

/-- A freed buffer is FREE or in the ring. -/
theorem Pool.role_setFree_same (p : Pool) (b : BufId) :
    ((p.setFree b).bufRec b).role = .free ∨ ((p.setFree b).bufRec b).role = .ring := by
  rcases Nat.lt_or_ge p.ring.length 3 with hs | hs
  · rw [p.setFree_short b hs, Pool.bufRec_joinRing, if_pos rfl]; exact .inr rfl
  · rw [p.setFree_full b hs, Pool.bufRec_setRec_same]; exact .inl rfl

/-- A released buffer with no pin is freed (R11). -/
theorem Pool.release_unpinned (p : Pool) (b : BufId) (h : (p.bufRec b).pins = 0) : p.release b = p.setFree b := by
  simp [Pool.release, h]

/-- A released buffer with a pin is RETIRING (R11). -/
theorem Pool.release_pinned (p : Pool) (b : BufId) (h : (p.bufRec b).pins ≠ 0) :
    p.release b = p.setRec b { p.bufRec b with role := .retiring } := by
  simp [Pool.release, h]

theorem Pool.bufRec_release_other (p : Pool) {b c : BufId} (h : c ≠ b) : (p.release b).bufRec c = p.bufRec c := by
  by_cases hp : (p.bufRec b).pins = 0
  · rw [p.release_unpinned b hp, p.bufRec_setFree_other h]
  · rw [p.release_pinned b hp, Pool.bufRec_setRec_other _ _ _ _ h]

theorem Pool.role_release_same (p : Pool) (b : BufId) :
    ((p.release b).bufRec b).role = .free ∨ ((p.release b).bufRec b).role = .ring ∨
      ((p.release b).bufRec b).role = .retiring := by
  by_cases hp : (p.bufRec b).pins = 0
  · rw [p.release_unpinned b hp]
    exact (p.role_setFree_same b).imp_right .inl
  · rw [p.release_pinned b hp, Pool.bufRec_setRec_same]
    exact .inr (.inr rfl)

/-- A pin released from a buffer that is not RETIRING, or keeps another pin, lowers the count alone (R12). -/
theorem Pool.unpin_kept (p : Pool) (b : BufId) (h : (p.bufRec b).pins - 1 ≠ 0 ∨ (p.bufRec b).role ≠ .retiring) :
    p.unpin b = p.setRec b { p.bufRec b with pins := (p.bufRec b).pins - 1 } := by
  unfold Pool.unpin
  simp only [Pool.bufRec_setRec_same]
  rw [if_neg (by tauto)]

/-- The last pin of a RETIRING buffer frees it (R13). -/
theorem Pool.unpin_retiring (p : Pool) (b : BufId) (h : (p.bufRec b).pins - 1 = 0) (hr : (p.bufRec b).role = .retiring) :
    p.unpin b = (p.setRec b { p.bufRec b with pins := (p.bufRec b).pins - 1 }).setFree b := by
  unfold Pool.unpin
  simp only [Pool.bufRec_setRec_same]
  rw [if_pos ⟨h, hr⟩]

/-! ### Taking a buffer (R6, R9) -/

/-- The pool between a take and its refill: `b` has left the ring for `role`. -/
def Pool.taken (p : Pool) (b : BufId) (role : Role) : Pool :=
  { p.setRec b { p.bufRec b with role := role } with ring := p.ring.erase b }

theorem Pool.give_eq_refill (p : Pool) (b : BufId) (role : Role) : p.give b role = (p.taken b role).refill := rfl

@[simp] theorem Pool.ring_taken (p : Pool) (b : BufId) (role : Role) : (p.taken b role).ring = p.ring.erase b := rfl

theorem Pool.bufRec_taken (p : Pool) (b c : BufId) (role : Role) :
    (p.taken b role).bufRec c = if c = b then { p.bufRec b with role := role } else p.bufRec c :=
  Pool.bufRec_setRec p b c _

/-- A refill takes the lowest FREE buffer into a short ring, or finds none, or has nothing to do (R6). -/
theorem Pool.refill_cases (p : Pool) :
    (3 ≤ p.ring.length ∧ p.refill = p) ∨ (p.ring.length < 3 ∧ p.lowestFree = none ∧ p.refill = p) ∨
      ∃ c, p.ring.length < 3 ∧ p.lowestFree = some c ∧ p.refill = p.joinRing c := by
  unfold Pool.refill
  rcases Nat.lt_or_ge p.ring.length 3 with hs | hs
  · rw [if_pos hs]
    cases hf : p.lowestFree with
    | none => exact .inr (.inl ⟨hs, rfl, rfl⟩)
    | some c => exact .inr (.inr ⟨c, hs, rfl, rfl⟩)
  · exact .inl ⟨hs, if_neg (Nat.not_lt.2 hs)⟩

/-- A refill leaves every record that is not FREE. -/
theorem Pool.bufRec_refill (p : Pool) {c : BufId} (h : (p.bufRec c).role ≠ .free) : (p.refill).bufRec c = p.bufRec c := by
  rcases p.refill_cases with ⟨-, he⟩ | ⟨-, -, he⟩ | ⟨d, -, hd, he⟩ <;> rw [he]
  rw [Pool.bufRec_joinRing, if_neg]
  rintro rfl
  exact h (Pool.role_of_lowestFree hd)

/-- A refill leaves a FREE buffer FREE or takes it into the ring. -/
theorem Pool.role_refill_free (p : Pool) {c : BufId} (h : (p.bufRec c).role = .free) :
    ((p.refill).bufRec c).role = .free ∨ ((p.refill).bufRec c).role = .ring := by
  rcases p.refill_cases with ⟨-, he⟩ | ⟨-, -, he⟩ | ⟨d, -, hd, he⟩ <;> rw [he]
  · exact .inl h
  · exact .inl h
  · rw [Pool.bufRec_joinRing]
    split
    · exact .inr rfl
    · exact .inl h

/-- The buffer given keeps its pins, flag and metadata (R9). -/
theorem Pool.bufRec_give_same (p : Pool) (b : BufId) {role : Role} (h : role ≠ .free) :
    (p.give b role).bufRec b = { p.bufRec b with role := role } := by
  have hb : (p.taken b role).bufRec b = { p.bufRec b with role := role } := by rw [Pool.bufRec_taken, if_pos rfl]
  rw [p.give_eq_refill, Pool.bufRec_refill _ (by rw [hb]; exact h), hb]

/-- A take leaves the other buffers that are not FREE. -/
theorem Pool.bufRec_give_other (p : Pool) {b c : BufId} (role : Role) (hc : c ≠ b) (h : (p.bufRec c).role ≠ .free) :
    (p.give b role).bufRec c = p.bufRec c := by
  have hb : (p.taken b role).bufRec c = p.bufRec c := by rw [Pool.bufRec_taken, if_neg hc]
  rw [p.give_eq_refill, Pool.bufRec_refill _ (by rw [hb]; exact h), hb]

/-- A take leaves a FREE buffer FREE or takes it into the ring. -/
theorem Pool.role_give_free (p : Pool) {b c : BufId} (role : Role) (hc : c ≠ b) (h : (p.bufRec c).role = .free) :
    ((p.give b role).bufRec c).role = .free ∨ ((p.give b role).bufRec c).role = .ring := by
  rw [p.give_eq_refill]
  exact Pool.role_refill_free _ (by rw [Pool.bufRec_taken, if_neg hc]; exact h)

/-! ### The uses outside the ring -/

/-- A buffer is used outside the ring as `role`, which is neither FREE nor RING: what an operation must say of HELD and PAGE. -/
def Role.inUse : Role → Bool
  | .held => true
  | .page => true
  | _ => false

/-- After a take the buffers used as HELD or PAGE are those before and the one given (R9). -/
theorem Pool.role_give_iff (p : Pool) (b c : BufId) {role r : Role} (hg : role.inUse = true) (hr : r.inUse = true)
    (hb : (p.bufRec b).role = .ring) :
    ((p.give b role).bufRec c).role = r ↔ (c = b ∧ r = role) ∨ (p.bufRec c).role = r := by
  by_cases hc : c = b
  · subst hc
    have hne : role ≠ .free := by rintro rfl; cases hg
    have hnr : ¬ Role.ring = r := by rintro rfl; cases hr
    simp [p.bufRec_give_same c hne, hb, hnr, eq_comm]
  · by_cases hf : (p.bufRec c).role = .free
    · rcases p.role_give_free role hc hf with h | h <;> rw [h, hf] <;> cases r <;> simp_all [Role.inUse]
    · simp [p.bufRec_give_other role hc hf, hc]

/-- After a release the buffers used as HELD or PAGE are those before but the one released (R11). -/
theorem Pool.role_release_iff (p : Pool) (b c : BufId) {r : Role} (hr : r.inUse = true) :
    ((p.release b).bufRec c).role = r ↔ c ≠ b ∧ (p.bufRec c).role = r := by
  by_cases hc : c = b
  · subst hc
    rcases p.role_release_same c with h | h | h <;> rw [h] <;> cases r <;> simp_all [Role.inUse]
  · simp [p.bufRec_release_other hc, hc]

/-- A release of a pin leaves the buffers used as HELD or PAGE (R12, R13). -/
theorem Pool.role_unpin_iff (p : Pool) (b c : BufId) {r : Role} (hr : r.inUse = true) :
    ((p.unpin b).bufRec c).role = r ↔ (p.bufRec c).role = r := by
  by_cases hk : (p.bufRec b).pins - 1 = 0 ∧ (p.bufRec b).role = .retiring
  · rw [p.unpin_retiring b hk.1 hk.2]
    by_cases hc : c = b
    · subst hc
      rw [hk.2]
      rcases (p.setRec c { p.bufRec c with pins := (p.bufRec c).pins - 1 }).role_setFree_same c with h | h <;> rw [h] <;>
        cases r <;> simp_all [Role.inUse]
    · rw [Pool.bufRec_setFree_other _ hc, Pool.bufRec_setRec_other _ _ _ _ hc]
  · rw [p.unpin_kept b (by tauto), Pool.bufRec_setRec]
    split
    · next h => subst h; rfl
    · rfl

/-! ### The ring (R3, R5, R6) -/

/-- The ring list's own invariant: it lists the RING buffers once each, 2 or 3 of them, and 3 while a buffer is FREE. -/
structure Pool.RingOk (p : Pool) : Prop where
  nodup : p.ring.Nodup
  mem_iff : ∀ b : BufId, b ∈ p.ring ↔ (p.bufRec b).role = .ring
  two_le : 2 ≤ p.ring.length
  le_three : p.ring.length ≤ 3
  full : (∃ b : BufId, (p.bufRec b).role = .free) → p.ring.length = 3

/-- A FREE or otherwise unlisted buffer joins a ring of 2 (R6). -/
theorem Pool.RingOk.joinRing {p : Pool} {b : BufId} (hn : p.ring.Nodup) (hm : ∀ c, c ≠ b → (c ∈ p.ring ↔ (p.bufRec c).role = .ring))
    (hb : b ∉ p.ring) (hl : p.ring.length = 2) : (p.joinRing b).RingOk where
  nodup := List.nodup_cons.2 ⟨hb, hn⟩
  mem_iff c := by
    rw [Pool.bufRec_joinRing, Pool.ring_joinRing, List.mem_cons]
    by_cases hc : c = b
    · simp [hc]
    · simp [hc, hm c hc]
  two_le := by simp [hl]
  le_three := by simp [hl]
  full _ := by simp [hl]

/-- Another record for a buffer that is and stays outside the ring keeps the ring, where it is not FREE or the ring is full. -/
theorem Pool.RingOk.setRec {p : Pool} (h : p.RingOk) {b : BufId} {r : BufRec} (hb : (p.bufRec b).role = .ring ↔ r.role = .ring)
    (hf : r.role = .free → (p.bufRec b).role = .free ∨ p.ring.length = 3) : (p.setRec b r).RingOk where
  nodup := h.nodup
  mem_iff c := by
    rw [Pool.bufRec_setRec, Pool.ring_setRec, h.mem_iff]
    split
    · next hc => subst hc; exact hb
    · rfl
  two_le := h.two_le
  le_three := h.le_three
  full := by
    rintro ⟨c, hc⟩
    rw [Pool.bufRec_setRec] at hc
    split at hc
    · exact (hf hc).elim (fun hb => h.full ⟨b, hb⟩) id
    · exact h.full ⟨c, hc⟩

/-- A buffer outside the ring that is freed keeps the ring, which it joins where it is short (R6, R11). -/
theorem Pool.RingOk.setFree {p : Pool} (h : p.RingOk) {b : BufId} (hb : (p.bufRec b).role ≠ .ring) : (p.setFree b).RingOk := by
  rcases Nat.lt_or_ge p.ring.length 3 with hs | hs
  · have h2 := h.two_le
    rw [p.setFree_short b hs]
    exact .joinRing h.nodup (fun c _ => h.mem_iff c) (mt (h.mem_iff b).1 hb) (by omega)
  · have h3 := h.le_three
    rw [p.setFree_full b hs]
    exact h.setRec (by simp [hb]) fun _ => .inr (by omega)

theorem Pool.RingOk.release {p : Pool} (h : p.RingOk) {b : BufId} (hb : (p.bufRec b).role ≠ .ring) : (p.release b).RingOk := by
  by_cases hp : (p.bufRec b).pins = 0
  · rw [p.release_unpinned b hp]; exact h.setFree hb
  · rw [p.release_pinned b hp]; exact h.setRec (by simp [hb]) (by simp)

theorem Pool.RingOk.pin {p : Pool} (h : p.RingOk) (b : BufId) : (p.pin b).RingOk := h.setRec Iff.rfl .inl

theorem Pool.RingOk.unpin {p : Pool} (h : p.RingOk) (b : BufId) : (p.unpin b).RingOk := by
  have hlow : (p.setRec b { p.bufRec b with pins := (p.bufRec b).pins - 1 }).RingOk := h.setRec Iff.rfl .inl
  by_cases hk : (p.bufRec b).pins - 1 = 0 ∧ (p.bufRec b).role = .retiring
  · rw [p.unpin_retiring b hk.1 hk.2]
    exact hlow.setFree (by rw [Pool.bufRec_setRec_same, hk.2]; decide)
  · rw [p.unpin_kept b (by tauto)]
    exact hlow

/-- A take from a ring of 3 leaves a ring of 2, which a FREE buffer joins where there is one (R6, R9). -/
theorem Pool.RingOk.give {p : Pool} (h : p.RingOk) {b : BufId} {role : Role} (hb : (p.bufRec b).role = .ring)
    (hl : 2 < p.ring.length) (hr : role.inUse = true) : (p.give b role).RingOk := by
  have hbm : b ∈ p.ring := (h.mem_iff b).2 hb
  have hlen : (p.taken b role).ring.length = 2 := by
    have h3 := h.le_three
    rw [Pool.ring_taken, List.length_erase_of_mem hbm]; omega
  have hn : (p.taken b role).ring.Nodup := h.nodup.erase b
  have hm : ∀ c, c ∈ (p.taken b role).ring ↔ ((p.taken b role).bufRec c).role = .ring := by
    intro c
    rw [Pool.ring_taken, h.nodup.mem_erase_iff, Pool.bufRec_taken, h.mem_iff]
    split
    · next hc => subst hc; cases role <;> simp_all [Role.inUse]
    · next hc => simp [hc]
  rw [p.give_eq_refill]
  rcases (p.taken b role).refill_cases with ⟨h3, -⟩ | ⟨-, hf, he⟩ | ⟨c, -, hf, he⟩
  · omega
  · rw [he]
    exact ⟨hn, hm, by omega, by omega, fun ⟨c, hc⟩ => absurd hc (Pool.lowestFree_eq_none.1 hf c)⟩
  · rw [he]
    exact .joinRing hn (fun c _ => hm c) (by rw [hm, Pool.role_of_lowestFree hf]; decide) hlen

/-- The ring in another order keeps the ring. -/
theorem Pool.RingOk.reorder {p : Pool} (h : p.RingOk) {l : List BufId} (hl : l.Perm p.ring) :
    Pool.RingOk { p with ring := l } where
  nodup := hl.nodup_iff.2 h.nodup
  mem_iff b := hl.mem_iff.trans (h.mem_iff b)
  two_le := hl.length_eq ▸ h.two_le
  le_three := hl.length_eq ▸ h.le_three
  full hf := hl.length_eq.trans (h.full hf)

/-- The write buffer moves to the front with its flag cleared (R5, R7). -/
theorem Pool.RingOk.chooseWrite {p : Pool} (h : p.RingOk) {b : BufId} (hb : b ∈ p.ring) : (p.chooseWrite b).RingOk :=
  Pool.RingOk.reorder (p := p.setRec b { p.bufRec b with complete := none }) (h.setRec Iff.rfl .inl)
    (List.perm_cons_erase hb).symm

/-- A completed buffer moves to the back with its metadata (R5, R8). -/
theorem Pool.RingOk.markComplete {p : Pool} (h : p.RingOk) {b : BufId} (hb : b ∈ p.ring) (info : FrameMeta) :
    (p.markComplete b info).RingOk :=
  Pool.RingOk.reorder (p := p.setRec b { p.bufRec b with complete := some info }) (h.setRec Iff.rfl .inl)
    ((List.perm_append_singleton b _).trans (List.perm_cons_erase hb).symm)

end Sys2Proof.Machine

/-! SUPPORT. Buffer use: the part of the state that says how the frame memory and its buffers are used, and the steps by which a
command can change it. The three invariants of the frame memory and the pool are invariants of these steps. -/
namespace Sys2Proof.Machine

/-- The readers that can hold a pin: the two feed areas and the two page channels (R12). -/
inductive Reader
  | first
  | second
  | ex0
  | ex1
deriving DecidableEq

/-- How the frame memory and its buffers are used: the memory, the pool, the HELD buffer and the staged frozen flag, the buffer of
each page record, the frame in reception with its write buffer, and the buffer each reader has pinned. -/
structure BufferUse where
  mem : List Host.Cell
  pool : Pool
  held : Option BufId
  frozen : Bool
  pages : SlotId → Option BufId
  intake : IntakeState
  writing : Option BufId
  pins : Reader → Option BufId

/-- The pin a reader holds. -/
def State.readerPin (s : State) : Reader → Option BufId
  | .first => s.feed.first.pin
  | .second => s.feed.second.pin
  | .ex0 => s.link.ex0.pin?
  | .ex1 => s.link.ex1.pin?

/-- How a state uses the frame memory and its buffers. -/
def State.bufferUse (s : State) : BufferUse :=
  { mem := s.mem, pool := s.pool, held := s.view.held, frozen := s.view.staged.frozen
    pages := fun k => (s.store.page k).buffer?, intake := s.intake.state, writing := s.intake.writeBuffer
    pins := s.readerPin }

/-- The pool answers a take of `b` with the buffer (R9). -/
def Pool.Takeable (p : Pool) (b : BufId) : Prop :=
  (b ∈ p.ring ∨ (p.bufRec b).role = .ring) ∧ (p.bufRec b).complete ≠ none ∧ 2 < p.ring.length

/-- One change a command can make to the use of the frame memory and its buffers. -/
inductive BufferUse.Step (u : BufferUse) : BufferUse → Prop
  /-- A part reset keeps the memory alone (R16). -/
  | reset : Step u { State.reset.bufferUse with mem := u.mem }
  /-- A line written (R21). -/
  | wrote (m : List Host.Cell) (h : Memory.wf u.mem = true → Memory.wf m = true) : Step u { u with mem := m }
  /-- A complete frame taken as HELD (R66). -/
  | froze (b : BufId) (hf : u.frozen = false) (hb : u.pool.Takeable b) :
    Step u { u with pool := u.pool.give b .held, frozen := true, held := some b }
  /-- The HELD buffer released (R67). -/
  | thawed (b : BufId) (hf : u.frozen = true) (hb : u.held = some b) :
    Step u { u with pool := u.pool.release b, frozen := false, held := none }
  /-- A frozen view that records no HELD buffer unfrozen (log 26). -/
  | thawedNone (hf : u.frozen = true) (hb : u.held = none) : Step u { u with frozen := false }
  /-- A complete frame stored as a page (R125). -/
  | stored (k : SlotId) (b : BufId) (hk : u.pages k = none) (hb : u.pool.Takeable b) :
    Step u { u with pool := u.pool.give b .page, pages := Function.update u.pages k (some b) }
  /-- A page freed with its buffer (R134, R135). -/
  | freed (k : SlotId) (b : BufId) (hk : u.pages k = some b) :
    Step u { u with pool := u.pool.release b, pages := Function.update u.pages k none }
  /-- A reader pins a buffer (R12). -/
  | pinned (r : Reader) (b : BufId) (hr : u.pins r = none) :
    Step u { u with pool := u.pool.pin b, pins := Function.update u.pins r (some b) }
  /-- A reader releases its pin (R12, R13). -/
  | unpinned (r : Reader) (b : BufId) (hr : u.pins r = some b) :
    Step u { u with pool := u.pool.unpin b, pins := Function.update u.pins r none }
  /-- A frame start is given a write buffer (R7, R20). -/
  | received (b : BufId) (hb : b ∈ u.pool.ring) :
    Step u { u with pool := u.pool.chooseWrite b, intake := .receiving, writing := some b }
  /-- A frame is abandoned or skipped (R20, R22). -/
  | dropped : Step u { u with intake := .seeking, writing := none }
  /-- A frame is completed (R25). -/
  | completed (b : BufId) (info : FrameMeta) (hb : u.writing = some b) :
    Step u { u with pool := u.pool.markComplete b info, intake := .seeking, writing := none }

/-! ### The invariants, as properties of the use -/

/-- The roles agree with the ring, the HELD buffer and the pages. -/
structure BufferUse.RolesOk (u : BufferUse) : Prop where
  ring : u.pool.RingOk
  held_iff : ∀ b, (u.pool.bufRec b).role = .held ↔ u.held = some b
  frozen_eq : u.frozen = u.held.isSome
  page_iff : ∀ b, (u.pool.bufRec b).role = .page ↔ ∃ k, u.pages k = some b
  pages_ne : ∀ j k, j ≠ k → u.pages j ≠ none → u.pages j ≠ u.pages k

/-- A frame in reception has an incomplete RING buffer as its write buffer. -/
structure BufferUse.WritingOk (u : BufferUse) : Prop where
  receiving_iff : u.intake = .receiving ↔ u.writing.isSome = true
  write_buffer : ∀ b, u.writing = some b → (u.pool.bufRec b).role = .ring ∧ (u.pool.bufRec b).complete = none

/-- Every pin count is the number of readers that pinned the buffer. -/
def BufferUse.PinsOk (u : BufferUse) : Prop :=
  ∀ b, (u.pool.bufRec b).pins =
    pinOn b (u.pins .first) + pinOn b (u.pins .second) + pinOn b (u.pins .ex0) + pinOn b (u.pins .ex1)

theorem State.rolesOk_iff (s : State) : s.rolesOk ↔ s.bufferUse.RolesOk := by
  constructor
  · rintro ⟨hn, hm, ⟨h2, h3⟩, hf, hh, hz, hp, hd⟩
    exact ⟨⟨hn, hm, h2, h3, hf⟩, hh, hz, hp, hd⟩
  · rintro ⟨⟨hn, hm, h2, h3, hf⟩, hh, hz, hp, hd⟩
    exact ⟨hn, hm, ⟨h2, h3⟩, hf, hh, hz, hp, hd⟩

theorem State.writeBufferOk_iff (s : State) : s.writeBufferOk ↔ s.bufferUse.WritingOk :=
  ⟨fun ⟨h, k⟩ => ⟨h, k⟩, fun ⟨h, k⟩ => ⟨h, k⟩⟩

theorem State.pinsOk_iff (s : State) : s.pinsOk ↔ s.bufferUse.PinsOk := Iff.rfl

/-! ### Pin counts under a step -/

theorem Pool.pins_chooseWrite (p : Pool) (b c : BufId) : ((p.chooseWrite b).bufRec c).pins = (p.bufRec c).pins := by
  unfold Pool.chooseWrite
  rw [Pool.bufRec_withRing, Pool.bufRec_setRec]
  split
  · next h => subst h; rfl
  · rfl

theorem Pool.pins_markComplete (p : Pool) (b c : BufId) (info : FrameMeta) :
    ((p.markComplete b info).bufRec c).pins = (p.bufRec c).pins := by
  unfold Pool.markComplete
  rw [Pool.bufRec_withRing, Pool.bufRec_setRec]
  split
  · next h => subst h; rfl
  · rfl

/-- The readers that pinned `b`, counted. -/
def readersOf (pins : Reader → Option BufId) (b : BufId) : Nat :=
  pinOn b (pins .first) + pinOn b (pins .second) + pinOn b (pins .ex0) + pinOn b (pins .ex1)

/-- What one reader pins, apart from the others. -/
theorem readersOf_update (pins : Reader → Option BufId) (r : Reader) (x : Option BufId) (b : BufId) :
    readersOf (Function.update pins r x) b + pinOn b (pins r) = readersOf pins b + pinOn b x := by
  cases r <;> simp [readersOf, Function.update] <;> omega

theorem BufferUse.pinsOk_iff (u : BufferUse) : u.PinsOk ↔ ∀ b, (u.pool.bufRec b).pins = readersOf u.pins b := Iff.rfl

theorem BufferUse.Step.pinsOk {u v : BufferUse} (h : u.Step v) (hu : u.PinsOk) : v.PinsOk := by
  rw [BufferUse.pinsOk_iff] at hu ⊢
  intro c
  cases h with
  | reset => exact (by decide : State.reset.pinsOk) c
  | wrote m h => exact hu c
  | froze b hf hb => exact (Pool.pins_give _ _ _ _).trans (hu c)
  | thawed b hf hb => exact (Pool.pins_release _ _ _).trans (hu c)
  | thawedNone hf hb => exact hu c
  | stored k b hk hb => exact (Pool.pins_give _ _ _ _).trans (hu c)
  | freed k b hk => exact (Pool.pins_release _ _ _).trans (hu c)
  | pinned r b hr =>
    have hc := readersOf_update u.pins r (some b) c
    have hp := Pool.pins_pin u.pool b c
    rw [hr] at hc
    simp only [pinOn, Option.some.injEq, eq_comm (a := b), reduceCtorEq, if_false] at hc
    simp only [hp, hu c]
    omega
  | unpinned r b hr =>
    have hc := readersOf_update u.pins r none c
    have hp := Pool.pins_unpin u.pool b c
    rw [hr] at hc
    simp only [pinOn, Option.some.injEq, eq_comm (a := b), reduceCtorEq, if_false] at hc
    simp only [hp, hu c]
    omega
  | received b hb => exact (Pool.pins_chooseWrite _ _ _).trans (hu c)
  | dropped => exact hu c
  | completed b info hb => exact (Pool.pins_markComplete _ _ _ _).trans (hu c)

/-! ### Roles under a step -/

/-- A buffer that can be taken is a RING buffer. -/
theorem Pool.Takeable.role {p : Pool} {b : BufId} (h : p.Takeable b) (hp : p.RingOk) : (p.bufRec b).role = .ring :=
  h.1.elim (hp.mem_iff b).1 id

theorem Pool.role_chooseWrite (p : Pool) (b c : BufId) : ((p.chooseWrite b).bufRec c).role = (p.bufRec c).role := by
  unfold Pool.chooseWrite
  rw [Pool.bufRec_withRing, Pool.bufRec_setRec]
  split
  · next h => subst h; rfl
  · rfl

theorem Pool.role_markComplete (p : Pool) (b c : BufId) (info : FrameMeta) :
    ((p.markComplete b info).bufRec c).role = (p.bufRec c).role := by
  unfold Pool.markComplete
  rw [Pool.bufRec_withRing, Pool.bufRec_setRec]
  split
  · next h => subst h; rfl
  · rfl

/-- Another pool that has the same HELD and PAGE buffers and a ring in order keeps the roles. -/
theorem BufferUse.RolesOk.withPool {u : BufferUse} (h : u.RolesOk) {p : Pool} (hp : p.RingOk)
    (hr : ∀ c r, r.inUse = true → ((p.bufRec c).role = r ↔ (u.pool.bufRec c).role = r)) :
    BufferUse.RolesOk { u with pool := p } where
  ring := hp
  held_iff c := (hr c .held rfl).trans (h.held_iff c)
  frozen_eq := h.frozen_eq
  page_iff c := (hr c .page rfl).trans (h.page_iff c)
  pages_ne := h.pages_ne

/-- What the pages hold after another record in slot `k`. -/
theorem exists_update_some (pages : SlotId → Option BufId) (k : SlotId) (b c : BufId) (hk : pages k = none) :
    (∃ j, Function.update pages k (some b) j = some c) ↔ c = b ∨ ∃ j, pages j = some c := by
  constructor
  · rintro ⟨j, hj⟩
    rw [Function.update_apply] at hj
    split at hj
    · exact .inl (by simpa using hj.symm)
    · exact .inr ⟨j, hj⟩
  · rintro (rfl | ⟨j, hj⟩)
    · exact ⟨k, Function.update_self ..⟩
    · refine ⟨j, (Function.update_of_ne ?_ ..).trans hj⟩
      rintro rfl
      simp [hk] at hj

/-- What the pages hold once slot `k`, which held `b`, holds none. -/
theorem exists_update_none {pages : SlotId → Option BufId} {k : SlotId} {b : BufId} (hk : pages k = some b)
    (hne : ∀ j l, j ≠ l → pages j ≠ none → pages j ≠ pages l) (c : BufId) :
    (∃ j, Function.update pages k none j = some c) ↔ c ≠ b ∧ ∃ j, pages j = some c := by
  constructor
  · rintro ⟨j, hj⟩
    rw [Function.update_apply] at hj
    split at hj
    · cases hj
    · next hjk =>
      refine ⟨?_, j, hj⟩
      rintro rfl
      exact hne j k hjk (by simp [hj]) (hj.trans hk.symm)
  · rintro ⟨hc, j, hj⟩
    refine ⟨j, (Function.update_of_ne ?_ ..).trans hj⟩
    rintro rfl
    exact hc (Option.some.inj (hj.symm.trans hk))

/-- A take for a page of an unused slot. -/
theorem BufferUse.RolesOk.stored {u : BufferUse} (h : u.RolesOk) {k : SlotId} {b : BufId} (hk : u.pages k = none)
    (hb : u.pool.Takeable b) :
    BufferUse.RolesOk { u with pool := u.pool.give b .page, pages := Function.update u.pages k (some b) } := by
  have hr := hb.role h.ring
  have hnew : ∀ j, u.pages j ≠ some b := fun j hj => by
    have hp := (h.page_iff b).2 ⟨j, hj⟩
    simp [hr] at hp
  refine ⟨h.ring.give hr hb.2.2 rfl, fun c => ?_, h.frozen_eq, fun c => ?_, fun i j hij hi => ?_⟩
  · show ((u.pool.give b .page).bufRec c).role = .held ↔ u.held = some c
    rw [Pool.role_give_iff _ _ _ rfl rfl hr, ← h.held_iff c]
    simp
  · show ((u.pool.give b .page).bufRec c).role = .page ↔ ∃ j, Function.update u.pages k (some b) j = some c
    rw [Pool.role_give_iff _ _ _ rfl rfl hr, exists_update_some _ _ _ _ hk, ← h.page_iff c]
    simp
  · show Function.update u.pages k (some b) i ≠ Function.update u.pages k (some b) j
    simp only [Function.update_apply] at hi ⊢
    split <;> split
    · next hik hjk => exact absurd (hik.trans hjk.symm) hij
    · exact (hnew j).symm
    · exact hnew i
    · next hik _ => exact h.pages_ne i j hij (by simpa [hik] using hi)

/-- A page freed with its buffer. -/
theorem BufferUse.RolesOk.freed {u : BufferUse} (h : u.RolesOk) {k : SlotId} {b : BufId} (hk : u.pages k = some b) :
    BufferUse.RolesOk { u with pool := u.pool.release b, pages := Function.update u.pages k none } := by
  have hr : (u.pool.bufRec b).role = .page := (h.page_iff b).2 ⟨k, hk⟩
  refine ⟨h.ring.release (by simp [hr]), fun c => ?_, h.frozen_eq, fun c => ?_, fun i j hij hi => ?_⟩
  · show ((u.pool.release b).bufRec c).role = .held ↔ u.held = some c
    rw [Pool.role_release_iff _ _ _ rfl, ← h.held_iff c, and_iff_right_iff_imp]
    rintro hc rfl
    simp [hr] at hc
  · show ((u.pool.release b).bufRec c).role = .page ↔ ∃ j, Function.update u.pages k none j = some c
    rw [Pool.role_release_iff _ _ _ rfl, exists_update_none hk h.pages_ne, ← h.page_iff c]
  · show Function.update u.pages k none i ≠ Function.update u.pages k none j
    simp only [Function.update_apply] at hi ⊢
    split
    · next hik => simp [hik] at hi
    · next hik =>
      rw [if_neg hik] at hi
      split
      · exact hi
      · exact h.pages_ne i j hij hi

/-- A freeze of a view that is not frozen. -/
theorem BufferUse.RolesOk.froze {u : BufferUse} (h : u.RolesOk) {b : BufId} (hf : u.frozen = false) (hb : u.pool.Takeable b) :
    BufferUse.RolesOk { u with pool := u.pool.give b .held, frozen := true, held := some b } := by
  have hr := hb.role h.ring
  have hnone : u.held = none := by simpa [hf] using h.frozen_eq.symm
  refine ⟨h.ring.give hr hb.2.2 rfl, fun c => ?_, rfl, fun c => ?_, h.pages_ne⟩
  · show ((u.pool.give b .held).bufRec c).role = .held ↔ some b = some c
    rw [Pool.role_give_iff _ _ _ rfl rfl hr, h.held_iff c, hnone]
    simp [eq_comm]
  · show ((u.pool.give b .held).bufRec c).role = .page ↔ ∃ j, u.pages j = some c
    rw [Pool.role_give_iff _ _ _ rfl rfl hr, ← h.page_iff c]
    simp

/-- An unfreeze that releases the HELD buffer. -/
theorem BufferUse.RolesOk.thawed {u : BufferUse} (h : u.RolesOk) {b : BufId} (hb : u.held = some b) :
    BufferUse.RolesOk { u with pool := u.pool.release b, frozen := false, held := none } := by
  have hr : (u.pool.bufRec b).role = .held := (h.held_iff b).2 hb
  refine ⟨h.ring.release (by simp [hr]), fun c => ?_, rfl, fun c => ?_, h.pages_ne⟩
  · show ((u.pool.release b).bufRec c).role = .held ↔ none = some c
    rw [Pool.role_release_iff _ _ _ rfl, h.held_iff c, hb]
    simp [eq_comm]
  · show ((u.pool.release b).bufRec c).role = .page ↔ ∃ j, u.pages j = some c
    rw [Pool.role_release_iff _ _ _ rfl, ← h.page_iff c, and_iff_right_iff_imp]
    rintro hc rfl
    simp [hr] at hc

/-- The use after a part reset, whatever the memory. -/
theorem BufferUse.rolesOk_reset (m : List Host.Cell) : BufferUse.RolesOk { State.reset.bufferUse with mem := m } := by
  have h : State.reset.bufferUse.RolesOk :=
    ⟨⟨by decide, by decide, by decide, by decide, by decide⟩, by decide, rfl, by decide, by decide⟩
  exact ⟨h.ring, h.held_iff, h.frozen_eq, h.page_iff, h.pages_ne⟩

theorem BufferUse.Step.rolesOk {u v : BufferUse} (h : u.Step v) (hu : u.RolesOk) (hw : u.WritingOk) : v.RolesOk := by
  cases h with
  | reset => exact BufferUse.rolesOk_reset _
  | wrote m h => exact ⟨hu.ring, hu.held_iff, hu.frozen_eq, hu.page_iff, hu.pages_ne⟩
  | froze b hf hb => exact hu.froze hf hb
  | thawed b hf hb => exact hu.thawed hb
  | thawedNone hf hb => exact absurd hu.frozen_eq (by simp [hf, hb])
  | stored k b hk hb => exact hu.stored hk hb
  | freed k b hk => exact hu.freed hk
  | pinned r b hr =>
    have hp := hu.withPool (hu.ring.pin b) fun c r _ => by rw [(Pool.role_pin u.pool b c).1]
    exact ⟨hp.ring, hp.held_iff, hp.frozen_eq, hp.page_iff, hp.pages_ne⟩
  | unpinned r b hr =>
    have hp := hu.withPool (hu.ring.unpin b) fun c r h => Pool.role_unpin_iff u.pool b c h
    exact ⟨hp.ring, hp.held_iff, hp.frozen_eq, hp.page_iff, hp.pages_ne⟩
  | received b hb =>
    have hp := hu.withPool (hu.ring.chooseWrite hb) fun c r _ => by rw [Pool.role_chooseWrite]
    exact ⟨hp.ring, hp.held_iff, hp.frozen_eq, hp.page_iff, hp.pages_ne⟩
  | dropped => exact ⟨hu.ring, hu.held_iff, hu.frozen_eq, hu.page_iff, hu.pages_ne⟩
  | completed b info hb =>
    have hm : b ∈ u.pool.ring := (hu.ring.mem_iff b).2 (hw.write_buffer b hb).1
    have hp := hu.withPool (hu.ring.markComplete hm info) fun c r _ => by rw [Pool.role_markComplete]
    exact ⟨hp.ring, hp.held_iff, hp.frozen_eq, hp.page_iff, hp.pages_ne⟩

/-! ### The write buffer under a step -/

/-- Another pool that leaves the incomplete RING buffers what they are keeps the write buffer. -/
theorem BufferUse.WritingOk.of_pool {u v : BufferUse} (h : u.WritingOk) (hi : v.intake = u.intake) (hv : v.writing = u.writing)
    (hp : ∀ c, (u.pool.bufRec c).role = .ring → (u.pool.bufRec c).complete = none →
      (v.pool.bufRec c).role = .ring ∧ (v.pool.bufRec c).complete = none) : v.WritingOk where
  receiving_iff := by rw [hi, hv]; exact h.receiving_iff
  write_buffer c hc := by
    obtain ⟨hr, hn⟩ := h.write_buffer c (hv ▸ hc)
    exact hp c hr hn

/-- A release leaves the RING buffers, where what it releases is none. -/
theorem Pool.bufRec_release_ring (p : Pool) {b c : BufId} (hb : (p.bufRec b).role ≠ .ring) (hc : (p.bufRec c).role = .ring) :
    (p.release b).bufRec c = p.bufRec c :=
  p.bufRec_release_other (by rintro rfl; exact hb hc)

/-- A take leaves the incomplete RING buffers. -/
theorem Pool.bufRec_give_incomplete (p : Pool) {b c : BufId} (role : Role) (hb : (p.bufRec b).complete ≠ none)
    (hc : (p.bufRec c).role = .ring) (hn : (p.bufRec c).complete = none) : (p.give b role).bufRec c = p.bufRec c :=
  p.bufRec_give_other role (by rintro rfl; exact hb hn) (by simp [hc])

/-- A release of a pin leaves the RING buffers their role and flag. -/
theorem Pool.unpin_ring (p : Pool) (b : BufId) {c : BufId} (hc : (p.bufRec c).role = .ring) :
    ((p.unpin b).bufRec c).role = .ring ∧ ((p.unpin b).bufRec c).complete = (p.bufRec c).complete := by
  by_cases hk : (p.bufRec b).pins - 1 = 0 ∧ (p.bufRec b).role = .retiring
  · have hne : c ≠ b := by rintro rfl; simp [hc] at hk
    rw [p.unpin_retiring b hk.1 hk.2, Pool.bufRec_setFree_other _ hne, Pool.bufRec_setRec_other _ _ _ _ hne]
    exact ⟨hc, rfl⟩
  · rw [p.unpin_kept b (by tauto), Pool.bufRec_setRec]
    split
    · next h => subst h; exact ⟨hc, rfl⟩
    · exact ⟨hc, rfl⟩

theorem BufferUse.Step.writingOk {u v : BufferUse} (h : u.Step v) (hu : u.RolesOk) (hw : u.WritingOk) : v.WritingOk := by
  cases h with
  | reset => exact ⟨by simp [State.bufferUse, State.reset, Intake.reset], by simp [State.bufferUse, State.reset, Intake.reset]⟩
  | wrote m h => exact hw.of_pool rfl rfl fun c hr hn => ⟨hr, hn⟩
  | froze b hf hb =>
    exact hw.of_pool rfl rfl fun c hr hn => by rw [Pool.bufRec_give_incomplete _ _ hb.2.1 hr hn]; exact ⟨hr, hn⟩
  | thawed b hf hb =>
    have hb' : (u.pool.bufRec b).role ≠ .ring := by simp [(hu.held_iff b).2 hb]
    exact hw.of_pool rfl rfl fun c hr hn => by rw [Pool.bufRec_release_ring _ hb' hr]; exact ⟨hr, hn⟩
  | thawedNone hf hb => exact hw.of_pool rfl rfl fun c hr hn => ⟨hr, hn⟩
  | stored k b hk hb =>
    exact hw.of_pool rfl rfl fun c hr hn => by rw [Pool.bufRec_give_incomplete _ _ hb.2.1 hr hn]; exact ⟨hr, hn⟩
  | freed k b hk =>
    have hb' : (u.pool.bufRec b).role ≠ .ring := by simp [(hu.page_iff b).2 ⟨k, hk⟩]
    exact hw.of_pool rfl rfl fun c hr hn => by rw [Pool.bufRec_release_ring _ hb' hr]; exact ⟨hr, hn⟩
  | pinned r b hr =>
    exact hw.of_pool rfl rfl fun c hr hn => by
      rw [(Pool.role_pin u.pool b c).1, (Pool.role_pin u.pool b c).2]; exact ⟨hr, hn⟩
  | unpinned r b hr =>
    exact hw.of_pool rfl rfl fun c hr hn => by
      obtain ⟨hr', hn'⟩ := u.pool.unpin_ring b hr
      exact ⟨hr', hn'.trans hn⟩
  | received b hb =>
    refine ⟨by simp, fun c hc => ?_⟩
    obtain rfl : b = c := by simpa using hc
    refine ⟨(Pool.role_chooseWrite _ _ _).trans ((hu.ring.mem_iff b).1 hb), ?_⟩
    simp [Pool.chooseWrite]
  | dropped => exact ⟨by simp, by simp⟩
  | completed b info hb => exact ⟨by simp, by simp⟩

/-! ### The frame memory under a step -/

theorem BufferUse.Step.memoryOk {u v : BufferUse} (h : u.Step v) (hu : Memory.wf u.mem = true) : Memory.wf v.mem = true := by
  cases h with
  | wrote m h => exact h hu
  | _ => exact hu

/-! ### Runs of steps -/

/-- What a state comes to by a run of these steps. -/
def State.Leads (s t : State) : Prop := Relation.ReflTransGen BufferUse.Step s.bufferUse t.bufferUse

/-- What every step keeps holds after a run. -/
theorem State.Leads.induct {s t : State} (h : s.Leads t) (P : BufferUse → Prop) (hP : ∀ {u v : BufferUse}, u.Step v → P u → P v)
    (hs : P s.bufferUse) : P t.bufferUse := by
  have hrun : ∀ {v}, Relation.ReflTransGen BufferUse.Step s.bufferUse v → P v := by
    intro v hv
    induction hv with
    | refl => exact hs
    | tail _ hstep ih => exact hP hstep ih
  exact hrun h

theorem State.Leads.memoryOk {s t : State} (h : s.Leads t) (hs : s.memoryOk) : t.memoryOk :=
  h.induct (fun u => Memory.wf u.mem = true) BufferUse.Step.memoryOk hs

theorem State.Leads.pinsOk {s t : State} (h : s.Leads t) (hs : s.pinsOk) : t.pinsOk :=
  t.pinsOk_iff.2 (h.induct BufferUse.PinsOk BufferUse.Step.pinsOk (s.pinsOk_iff.1 hs))

theorem State.Leads.rolesOk {s t : State} (h : s.Leads t) (hs : s.rolesOk) (hw : s.writeBufferOk) : t.rolesOk ∧ t.writeBufferOk := by
  have hboth := h.induct (fun u => u.RolesOk ∧ u.WritingOk)
    (fun hstep hu => ⟨hstep.rolesOk hu.1 hu.2, hstep.writingOk hu.1 hu.2⟩) ⟨s.rolesOk_iff.1 hs, s.writeBufferOk_iff.1 hw⟩
  exact ⟨t.rolesOk_iff.2 hboth.1, t.writeBufferOk_iff.2 hboth.2⟩

end Sys2Proof.Machine

/-! SUPPORT. Buffer steps: every operation and every command as a run of the steps of a buffer use. -/
namespace Sys2Proof.Machine

/-! ### Runs -/

theorem State.Leads.refl (s : State) : s.Leads s := Relation.ReflTransGen.refl

theorem State.Leads.trans {s t u : State} (h : s.Leads t) (k : t.Leads u) : s.Leads u := Relation.ReflTransGen.trans h k

/-- A command that uses the buffers as before makes no step. -/
theorem State.Leads.of_same {s t : State} (h : t.bufferUse = s.bufferUse) : s.Leads t := by
  unfold State.Leads
  rw [h]

/-- One step. -/
theorem State.Leads.of_step {s t : State} {u : BufferUse} (h : s.bufferUse.Step u) (ht : t.bufferUse = u) : s.Leads t := by
  unfold State.Leads
  rw [ht]
  exact .single h

theorem State.Leads.before {s t u : State} (h : s.Leads t) (hu : u.bufferUse = t.bufferUse) : s.Leads u := h.trans (.of_same hu)

theorem State.Leads.after {s t u : State} (ht : t.bufferUse = s.bufferUse) (h : t.Leads u) : s.Leads u :=
  (State.Leads.of_same ht).trans h

/-! ### Operations that use the buffers as before -/

@[simp] theorem State.readerPin_ext (s t : State) (hf : t.feed = s.feed) (hl : t.link = s.link) : t.readerPin = s.readerPin := by
  funext r
  cases r <;> simp [State.readerPin, hf, hl]

/-- The use of the buffers is read from seven fields. -/
theorem State.bufferUse_ext {s t : State} (hm : t.mem = s.mem) (hp : t.pool = s.pool) (hh : t.view.held = s.view.held)
    (hz : t.view.staged.frozen = s.view.staged.frozen) (hs : t.store = s.store) (hi : t.intake = s.intake) (hf : t.feed = s.feed)
    (hl : t.link = s.link) : t.bufferUse = s.bufferUse := by
  simp [State.bufferUse, State.readerPin_ext s t hf hl, hm, hp, hh, hz, hs, hi]

@[simp] theorem State.bufferUse_setPort (s : State) (p : Port) (r : PortRec) : (s.setPort p r).bufferUse = s.bufferUse := rfl
@[simp] theorem State.bufferUse_post (s : State) (p : Port) (n : Notice) : (s.post p n).bufferUse = s.bufferUse := rfl
@[simp] theorem State.bufferUse_postAll (s : State) (n : Notice) (o : Option Port) : (s.postAll n o).bufferUse = s.bufferUse := rfl
@[simp] theorem State.bufferUse_offer (s : State) (o : Offer) : (s.offer o).bufferUse = s.bufferUse := rfl
@[simp] theorem State.bufferUse_reply (s : State) (p : Port) (k : Fin 4) (q : Request) (st : Status) (bs : List Byte) :
    (s.reply p k q st bs).bufferUse = s.bufferUse := rfl
@[simp] theorem State.bufferUse_withTimer (s : State) (x : Word) : (s.withTimer x).bufferUse = s.bufferUse := rfl
@[simp] theorem State.bufferUse_withLight (s : State) (x : Light) : (s.withLight x).bufferUse = s.bufferUse := rfl
@[simp] theorem State.bufferUse_withMotion (s : State) (x : Motion) : (s.withMotion x).bufferUse = s.bufferUse := rfl
@[simp] theorem State.bufferUse_withTenancy (s : State) (x : Tenancy) : (s.withTenancy x).bufferUse = s.bufferUse := rfl
@[simp] theorem State.bufferUse_withLesson (s : State) (x : Lesson) : (s.withLesson x).bufferUse = s.bufferUse := rfl
@[simp] theorem State.bufferUse_withTimeline (s : State) (x : Timeline) : (s.withTimeline x).bufferUse = s.bufferUse := rfl
@[simp] theorem State.bufferUse_withParams (s : State) (x : Params) : (s.withParams x).bufferUse = s.bufferUse := rfl
@[simp] theorem State.bufferUse_withPending (s : State) (x : List Instr) : (s.withPending x).bufferUse = s.bufferUse := rfl
@[simp] theorem State.bufferUse_handover (s : State) (t : Tenancy) (c : TenancyCause) : (s.handover t c).bufferUse = s.bufferUse := rfl
@[simp] theorem State.bufferUse_changeLesson (s : State) (l : Lesson) (c : LessonCause) : (s.changeLesson l c).bufferUse = s.bufferUse := rfl
@[simp] theorem State.bufferUse_appendOwn (s : State) (o : Offer) : (s.appendOwn o).bufferUse = s.bufferUse := rfl
@[simp] theorem State.bufferUse_timelineTick (s : State) : s.timelineTick.bufferUse = s.bufferUse := rfl

/-- Another view record uses the buffers as before where it keeps the HELD buffer and the frozen flag. -/
theorem State.bufferUse_withView (s : State) (v : View) (hh : v.held = s.view.held) (hz : v.staged.frozen = s.view.staged.frozen) :
    (s.withView v).bufferUse = s.bufferUse :=
  State.bufferUse_ext rfl rfl hh hz rfl rfl rfl rfl

theorem State.bufferUse_withStaged (s : State) (v : ViewRec) (hz : v.frozen = s.view.staged.frozen) :
    (s.withStaged v).bufferUse = s.bufferUse :=
  s.bufferUse_withView _ rfl hz

/-- Another store uses the buffers as before where every record keeps its buffer. -/
theorem State.bufferUse_withStore (s : State) (st : Store) (h : ∀ k, (st.page k).buffer? = (s.store.page k).buffer?) :
    (s.withStore st).bufferUse = s.bufferUse := by
  have hp : (fun k => (st.page k).buffer?) = fun k => (s.store.page k).buffer? := funext h
  simp only [State.bufferUse, State.store_withStore, hp]
  rfl

/-- Another record in a slot that keeps the buffer uses the buffers as before. -/
theorem State.bufferUse_setPage (s : State) (k : SlotId) (r : PageRec) (st : Store) (hp : st.pages = (s.store.setPage k r).pages)
    (h : r.buffer? = (s.store.page k).buffer?) : (s.withStore st).bufferUse = s.bufferUse := by
  refine s.bufferUse_withStore st fun j => ?_
  have hj : st.page j = (s.store.setPage k r).page j := by simp only [Store.page, hp]
  rw [hj, Store.page_setPage]
  split
  · next hjk => rw [h, hjk]
  · rfl

/-- Another intake record uses the buffers as before where it keeps its state and its write buffer. -/
theorem State.bufferUse_withIntake (s : State) (i : Intake) (hs : i.state = s.intake.state) (hw : i.writeBuffer = s.intake.writeBuffer) :
    (s.withIntake i).bufferUse = s.bufferUse := by
  simp only [State.bufferUse, State.intake_withIntake, hs, hw]
  rfl

/-- Another feed record uses the buffers as before where both areas keep their pins. -/
theorem State.bufferUse_withFeed (s : State) (f : Feed) (h1 : f.first.pin = s.feed.first.pin) (h2 : f.second.pin = s.feed.second.pin) :
    (s.withFeed f).bufferUse = s.bufferUse := by
  have hp : (s.withFeed f).readerPin = s.readerPin := by
    funext r
    cases r <;> simp [State.readerPin, h1, h2]
  simp only [State.bufferUse, hp]
  rfl

/-- Another link record uses the buffers as before where both channels keep their pins. -/
theorem State.bufferUse_withLink (s : State) (l : Link) (h0 : l.ex0.pin? = s.link.ex0.pin?) (h1 : l.ex1.pin? = s.link.ex1.pin?) :
    (s.withLink l).bufferUse = s.bufferUse := by
  have hp : (s.withLink l).readerPin = s.readerPin := by
    funext r
    cases r <;> simp [State.readerPin, h0, h1]
  simp only [State.bufferUse, hp]
  rfl

@[simp] theorem State.bufferUse_grantBest (s : State) (c : TenancyCause) (b : Bool) : (s.grantBest c b).bufferUse = s.bufferUse := by
  unfold State.grantBest
  split
  · rfl
  · dsimp only
    split <;> (try split) <;> rfl

@[simp] theorem State.bufferUse_evaluate (s : State) (n : Nat) : (State.evaluate n s).bufferUse = s.bufferUse := by
  induction n generalizing s with
  | zero => rfl
  | succ n ih =>
    unfold State.evaluate
    split
    · rw [ih, State.bufferUse_grantBest]
    · rfl

@[simp] theorem State.bufferUse_settle (s : State) : s.settle.bufferUse = s.bufferUse := s.bufferUse_evaluate _

@[simp] theorem State.bufferUse_passOn (s : State) (c : TenancyCause) : (s.passOn c).bufferUse = s.bufferUse := by
  unfold State.passOn
  split <;> simp

@[simp] theorem State.bufferUse_tenancyReset (s : State) (p : Port) : (s.tenancyReset p).bufferUse = s.bufferUse := by
  unfold State.tenancyReset
  split <;> simp

@[simp] theorem State.bufferUse_portReset (s : State) (p : Port) (k : Option (Fin 4)) : (s.portReset p k).bufferUse = s.bufferUse := by
  simp [State.portReset]

@[simp] theorem State.bufferUse_singleUseStep (s : State) : s.singleUseStep.bufferUse = s.bufferUse := by
  unfold State.singleUseStep
  split <;> simp

@[simp] theorem State.bufferUse_tenancyTick (s : State) : s.tenancyTick.bufferUse = s.bufferUse := by simp [State.tenancyTick]

theorem State.bufferUse_offerAll (s : State) (os : List Offer) : (s.offerAll os).bufferUse = s.bufferUse := by
  rw [State.offerAll_eq, State.bufferUse_withTimeline]

theorem State.bufferUse_commit (s : State) : s.commit.bufferUse = s.bufferUse := by
  unfold State.commit
  rw [State.bufferUse_offerAll]
  exact s.bufferUse_withView _ rfl rfl

theorem State.bufferUse_passTenancy {s t : State} {p : Port} (h : s.passTenancy p = some t) : t.bufferUse = s.bufferUse := by
  unfold State.passTenancy at h
  split at h
  · cases h; rfl
  · split at h <;> cases h
    rfl

theorem State.bufferUse_ownerActs (s : State) (i v : Nat) : (s.ownerActs i v).bufferUse = s.bufferUse := by
  unfold State.ownerActs
  split
  · simp
  · simp
  · simp
  · split <;> simp
  · rfl

theorem State.bufferUse_askBlock (s : State) (p : Port) (b : SummaryBlock) : (s.askBlock p b).bufferUse = s.bufferUse := by
  unfold State.askBlock
  split
  · rfl
  · split <;> simp

theorem State.bufferUse_failReservation (s : State) (k : SlotId) : (s.failReservation k).bufferUse = s.bufferUse := by
  unfold State.failReservation
  split
  · next tag after h =>
    rw [State.bufferUse_postAll]
    exact s.bufferUse_setPage k .empty _ rfl (by rw [h]; rfl)
  · rfl

theorem State.bufferUse_failReservations (s : State) : s.failReservations.bufferUse = s.bufferUse :=
  foldl_keeps State.bufferUse State.failReservation State.bufferUse_failReservation _ s

theorem State.bufferUse_liftStall (s : State) : s.liftStall.bufferUse = s.bufferUse := by
  unfold State.liftStall
  split <;> simp

@[simp] theorem State.bufferUse_sendReport (s : State) (r : Report) (e : Bool) : (s.sendReport r e).bufferUse = s.bufferUse := rfl

/-! ### Carrying out a request -/

/-- A request carried out makes the steps of its body. -/
theorem State.leads_serve (s : State) (p : Port) (meant : Request → Bool) (body : Request → State → Answer)
    (h : ∀ q, s.Leads (body q s).state) : s.Leads (s.serve p meant body) := by
  unfold State.serve
  split
  · exact .refl s
  · split
    · split
      · exact (h _).before (State.bufferUse_reply ..)
      · exact .of_same (State.bufferUse_reply ..)
    · exact .refl s

theorem leads_serveOpen {code : Nat} {p : Port} {body : Request → State → Answer} {s t : State}
    (ht : serveOpen code p body s = .next t) (h : ∀ q, s.Leads (body q s).state) : s.Leads t := by
  cases ht
  exact s.leads_serve p _ body h

/-- A gated request makes the steps of its body. -/
theorem leads_serveGated {code : Nat} {p : Port} {body : Request → State → Answer} {s t : State}
    (ht : serveGated code p body s = .next t) (h : ∀ q (u : State), u.Leads (body q u).state) : s.Leads t := by
  cases ht
  refine s.leads_serve p _ _ fun q => ?_
  unfold State.gated
  split
  · exact .refl s
  · next u hu => exact (State.Leads.after (State.bufferUse_passTenancy hu) (h q u)).before (State.bufferUse_singleUseStep _)

/-! ### Pins and the pages they free -/

/-- A page that a DISCARDING record holds is found by its buffer (R135). -/
theorem Store.discardingOf_some {st : Store} {b : BufId} {k : SlotId} {n : Nat} {p : Port}
    (h : st.discardingOf b = some (k, n, p)) :
    ∃ tag data, st.page k = .discarding tag data p ∧ data.buffer = b ∧ tag.serial = n := by
  obtain ⟨j, -, hj⟩ := List.exists_of_findSome?_eq_some h
  split at hj
  · next tag data by_ hp =>
    split at hj
    · next hb =>
      cases hj
      exact ⟨tag, data, hp, hb, rfl⟩
    · cases hj
  · cases hj

/-- A page freed with its buffer. -/
theorem State.leads_freed (s : State) (k : SlotId) (b : BufId) (st : Store) (hst : st.pages = (s.store.setPage k .empty).pages)
    (hk : (s.store.page k).buffer? = some b) : s.Leads ((s.withStore st).withPool (s.pool.release b)) := by
  refine .of_step (.freed k b hk) ?_
  have hp : (fun j => (st.page j).buffer?) = Function.update (fun j => (s.store.page j).buffer?) k none := by
    funext j
    have hj : st.page j = (s.store.setPage k .empty).page j := by simp only [Store.page, hst]
    rw [hj, Store.page_setPage, Function.update_apply]
    split <;> rfl
  simp only [State.bufferUse, State.store_withStore, State.store_withPool, hp]
  rfl

theorem State.leads_pinsGone (s : State) (b : BufId) : s.Leads (s.pinsGone b) := by
  unfold State.pinsGone
  split
  · next k n p h =>
    obtain ⟨tag, data, hp, hb, -⟩ := Store.discardingOf_some h
    exact (s.leads_freed k b _ rfl (by rw [hp, ← hb]; rfl)).before (State.bufferUse_postAll ..)
  · exact .refl s

/-- The use in which reader `r` records another pin. -/
def BufferUse.withPin (u : BufferUse) (r : Reader) (x : Option BufId) : BufferUse := { u with pins := Function.update u.pins r x }

/-- A reader's record without its pin, and then the pin released, is one step (R12, R13), and may free a page (R135). -/
theorem State.leads_unpin {s t : State} {r : Reader} {b : BufId} (hr : s.readerPin r = some b)
    (ht : t.bufferUse = s.bufferUse.withPin r none) : s.Leads (t.unpin b) := by
  have hpool : t.pool = s.pool := congrArg BufferUse.pool ht
  have hlow : s.Leads (t.withPool (t.pool.unpin b)) := by
    refine .of_step (.unpinned r b hr) ?_
    have hu : (t.withPool (t.pool.unpin b)).bufferUse = { t.bufferUse with pool := t.pool.unpin b } := rfl
    rw [hu, ht, hpool]
    rfl
  unfold State.unpin
  dsimp only
  split
  · exact hlow.trans (State.leads_pinsGone _ _)
  · exact hlow

/-- A pin taken, and then the reader's record with it, is one step (R12). -/
theorem State.leads_pin {s t : State} {r : Reader} {b : BufId} (hr : s.readerPin r = none)
    (ht : t.bufferUse = s.bufferUse.withPin r (some b)) : s.Leads (t.pin b) := by
  have hpool : t.pool = s.pool := congrArg BufferUse.pool ht
  refine .of_step (.pinned r b hr) ?_
  have hu : (t.pin b).bufferUse = { t.bufferUse with pool := t.pool.pin b } := rfl
  rw [hu, ht, hpool]
  rfl

/-! ### The page channels -/

/-- The reader that a page channel is. -/
def readerOf : Channel → Reader
  | .ex0 => .ex0
  | .ex1 => .ex1

theorem State.readerPin_channel (s : State) (c : Channel) : s.readerPin (readerOf c) = (s.link.chan c).pin? := by cases c <;> rfl

theorem State.bufferUse_setChan (s : State) (c : Channel) (x : Chan) :
    (s.setChan c x).bufferUse = s.bufferUse.withPin (readerOf c) x.pin? := by
  have hp : (s.setChan c x).readerPin = Function.update s.readerPin (readerOf c) x.pin? := by
    funext r
    cases c <;> cases r <;> rfl
  simp only [State.bufferUse, BufferUse.withPin, hp]
  rfl

/-- A channel's record that keeps its pin uses the buffers as before. -/
theorem State.bufferUse_setChan_same (s : State) (c : Channel) (x : Chan) (h : x.pin? = (s.link.chan c).pin?) :
    (s.setChan c x).bufferUse = s.bufferUse := by
  have hp : Function.update s.bufferUse.pins (readerOf c) x.pin? = s.bufferUse.pins := by
    rw [h, ← s.readerPin_channel c]; exact Function.update_eq_self _ _
  rw [s.bufferUse_setChan, BufferUse.withPin, hp]

/-- A channel that pinned `b` records no pin and releases it (R12, R168). -/
theorem State.leads_setChan_unpin {s : State} {c : Channel} {x : Chan} {b : BufId} (hp : (s.link.chan c).pin? = some b)
    (hx : x.pin? = none) : s.Leads ((s.setChan c x).unpin b) :=
  State.leads_unpin ((s.readerPin_channel c).trans hp) (by rw [s.bufferUse_setChan, hx])

/-- A channel without a pin pins `b` and records it (R12, R168). -/
theorem State.leads_setChan_pin {s : State} {c : Channel} {x : Chan} {b : BufId} (hp : (s.link.chan c).pin? = none)
    (hx : x.pin? = some b) : s.Leads ((s.setChan c x).pin b) :=
  State.leads_pin ((s.readerPin_channel c).trans hp) (by rw [s.bufferUse_setChan, hx])

theorem Chan.pin?_of_pinning {c : Chan} {d : ChanData} (h : c.pinning? = some d) : c.pin? = some d.buffer := by
  rw [Chan.pin?, h]; rfl

theorem State.leads_haltChannel (s : State) (c : Channel) : s.Leads (s.haltChannel c) := by
  unfold State.haltChannel
  split
  · next d h => exact State.leads_setChan_unpin (Chan.pin?_of_pinning h) rfl
  · exact .refl s

theorem State.leads_haltNow (s : State) (cause : HaltCause) : s.Leads (s.haltNow cause) := by
  have hdown := s.bufferUse_withLink { s.link with state := .halted cause, halts := saturate16 s.link.halts, owed := [] } rfl rfl
  exact (State.Leads.after hdown ((State.leads_haltChannel _ .ex0).trans (State.leads_haltChannel _ .ex1))).before rfl

theorem State.leads_halt (s : State) (cause : HaltCause) : s.Leads (s.halt cause) := by
  unfold State.halt
  split
  · exact .refl s
  · exact s.leads_haltNow cause

/-- The exported flag keeps the page's buffer (R139). -/
theorem State.bufferUse_markExported (s : State) (k : SlotId) (n : Nat) :
    (s.withStore (s.store.markExported k n)).bufferUse = s.bufferUse := by
  unfold Store.markExported
  split
  · next tag d h =>
    unfold Store.storedWith at h
    split at h
    · next tag' d' hp =>
      split at h <;> cases h
      exact s.bufferUse_setPage k _ _ rfl (by rw [hp]; rfl)
    · cases h
  · exact s.bufferUse_withStore _ fun _ => rfl

theorem State.leads_channelDone (s : State) (c : Channel) (d : ChanData) (h : (s.link.chan c).pin? = some d.buffer) :
    s.Leads (s.channelDone c d) := by
  have hmark : ∀ m : State, m.bufferUse = s.bufferUse → m.link = s.link →
      s.Leads (((m.setChan c (.used .done { d with sent := d.sent + 1 })).unpin d.buffer).postAll
        (.exportDone c d.slot d.serial d.scope d.total d.requester) none) := by
    intro m hm hl
    exact (State.Leads.after hm (State.leads_setChan_unpin (by rw [hl]; exact h) rfl)).before (State.bufferUse_postAll ..)
  unfold State.channelDone
  split
  · exact hmark _ (s.bufferUse_markExported _ _) rfl
  · exact hmark s rfl rfl

theorem State.leads_pageDelivered (s : State) (c : Channel) : s.Leads (s.pageDelivered c) := by
  unfold State.pageDelivered
  split
  · next d h =>
    split
    · exact s.leads_channelDone c d (by rw [h]; rfl)
    · exact .of_same (s.bufferUse_setChan_same c _ (by rw [h]; rfl))
  · next d h =>
    split
    · exact s.leads_channelDone c d (by rw [h]; rfl)
    · exact State.leads_setChan_unpin (by rw [h]; rfl) rfl
  · exact .refl s

theorem State.bufferUse_timelineDelivered (s : State) : s.timelineDelivered.bufferUse = s.bufferUse := by
  unfold State.timelineDelivered
  dsimp only
  split <;> simp

theorem State.leads_lastByte (s : State) : s.Leads s.lastByte := by
  unfold State.lastByte
  split
  · have hready := s.bufferUse_withLink { s.link with state := .ready, owed := [], out := s.link.out ++ s.link.owed } rfl rfl
    refine .after hready ?_
    unfold State.delivered
    split
    · exact State.leads_pageDelivered _ _
    · exact .of_same (State.bufferUse_timelineDelivered _)
  · exact .refl s

theorem State.leads_clockTransfer (s : State) (n : Nat) : s.Leads (s.clockTransfer n) := by
  unfold State.clockTransfer
  split
  · split
    · exact .refl s
    · split
      · exact s.leads_lastByte
      · exact .of_same (s.bufferUse_withLink _ rfl rfl)
  · exact .of_same (s.bufferUse_withLink _ rfl rfl)
  · exact .refl s

theorem State.leads_closeTransfer (s : State) : s.Leads s.closeTransfer := by
  unfold State.closeTransfer
  have h := s.bufferUse_withLink { s.link with transfer := s.link.afterClosing } rfl rfl
  dsimp only
  split
  · exact .after h (State.leads_halt _ _)
  · exact .of_same h

theorem State.leads_linkTick (s : State) : s.Leads s.linkTick := by
  unfold State.linkTick
  split
  · have h := s.bufferUse_withLink { s.link with time := s.link.time + 1 } rfl rfl
    dsimp only
    split
    · exact .after h (State.leads_halt _ _)
    · exact .of_same h
  · exact .refl s

/-- The opening of a transfer begins a block or a header and uses the buffers as before. -/
theorem State.leads_openTransfer {s t : State} (h : s.openTransfer = .next t) : s.Leads t := by
  have hlink : ∀ (u : State) (l : Link), u.bufferUse = s.bufferUse → l.ex0 = u.link.ex0 → l.ex1 = u.link.ex1 →
      s.Leads (u.withLink l) := by
    intro u l hu h0 h1
    exact .after hu (.of_same (u.bufferUse_withLink l (by rw [h0]) (by rw [h1])))
  unfold State.openTransfer at h
  split at h
  · unfold State.pullReady at h
    split at h
    · cases h
      exact hlink (s.withTimeline s.timeline.sealAll) _ rfl rfl rfl
    · split at h
      · cases h; exact hlink s _ rfl rfl rfl
      · split at h
        · unfold State.sendPage at h
          have hserved := s.bufferUse_withLink { s.link with lastServed := some ‹Channel› } rfl rfl
          dsimp only at h
          split at h
          · cases h; exact hlink (s.withLink _) _ hserved rfl rfl
          · split at h <;> cases h
            exact hlink (s.withLink _) _ hserved rfl rfl
        · cases h; exact hlink s _ rfl rfl rfl
  · cases h; exact hlink s _ rfl rfl rfl
  · cases h; exact hlink s _ rfl rfl rfl

/-! ### Requests to the export link unit -/

theorem State.leads_exportPage (s : State) (p : Port) (q : Request) : s.Leads (s.exportPage p q).state := by
  unfold State.exportPage
  split
  · split
    · exact .refl s
    · next c _ _ _ _ _ hp =>
      unfold State.startExport
      split
      · exact .refl s
      · split
        · exact .refl s
        · exact State.leads_setChan_pin (by rw [Chan.pin?, hp]; rfl) rfl
  · exact .refl s

theorem State.leads_exportStop (s : State) (q : Request) : s.Leads (s.exportStop q).state := by
  unfold State.exportStop
  split
  · exact .refl s
  · next c _ =>
    unfold State.stopChannel
    split
    · next d h =>
      split
      · exact .of_same (s.bufferUse_setChan_same c _ (by rw [h]; rfl))
      · exact State.leads_setChan_unpin (by rw [h]; rfl) rfl
    · exact .refl s
    · exact .refl s
    · exact .refl s
    · exact .refl s

theorem State.leads_continueChannel (s : State) (c : Channel) (d : ChanData) (h : (s.link.chan c).pin? = none) :
    s.Leads (s.continueChannel c d).state := by
  unfold State.continueChannel
  split
  · exact State.leads_setChan_pin h rfl
  · exact .of_same (s.bufferUse_setChan_same c _ (by rw [h]; rfl))

theorem State.leads_exportContinue (s : State) (q : Request) : s.Leads (s.exportContinue q).state := by
  unfold State.exportContinue
  split
  · exact .refl s
  · next c _ =>
    split
    · next d h => exact s.leads_continueChannel c d (by rw [h]; rfl)
    · next d h => exact s.leads_continueChannel c d (by rw [h]; rfl)
    · exact .refl s

theorem State.leads_exportResume (s : State) : s.Leads s.exportResume.state := by
  unfold State.exportResume
  split
  · split
    · exact .of_same (s.bufferUse_withLink _ rfl rfl)
    · exact .refl s
  · exact .refl s

/-! ### The projector feed -/

/-- A release of a pin does not look at the feed record. -/
theorem State.unpin_withFeed (s : State) (b : BufId) (f : Feed) : (s.unpin b).withFeed f = (s.withFeed f).unpin b := by
  unfold State.unpin
  dsimp only [State.withPool, State.withFeed]
  split
  · unfold State.pinsGone
    dsimp only [State.withStore, State.withPool]
    split <;> rfl
  · rfl

theorem State.unpin?_withFeed (s : State) (o : Option BufId) (f : Feed) : (s.unpin? o).withFeed f = (s.withFeed f).unpin? o := by
  cases o with
  | none => rfl
  | some b => exact s.unpin_withFeed b f

/-- The use once the feed record is replaced and the second area keeps its pin. -/
theorem State.bufferUse_withFeed_first (s : State) (f : Feed) (h : f.second.pin = s.feed.second.pin) :
    (s.withFeed f).bufferUse = s.bufferUse.withPin .first f.first.pin := by
  have hp : (s.withFeed f).readerPin = Function.update s.readerPin .first f.first.pin := by
    funext r
    cases r
    case second => exact h
    all_goals rfl
  simp only [State.bufferUse, BufferUse.withPin, hp]
  rfl

/-- The use once the feed record is replaced and the first area keeps its pin. -/
theorem State.bufferUse_withFeed_second (s : State) (f : Feed) (h : f.first.pin = s.feed.first.pin) :
    (s.withFeed f).bufferUse = s.bufferUse.withPin .second f.second.pin := by
  have hp : (s.withFeed f).readerPin = Function.update s.readerPin .second f.second.pin := by
    funext r
    cases r
    case first => exact h
    all_goals rfl
  simp only [State.bufferUse, BufferUse.withPin, hp]
  rfl

/-- A reader's pin released, if it holds one, once its record holds none. -/
theorem State.leads_unpin? {s t : State} {r : Reader} (o : Option BufId) (hr : s.readerPin r = o)
    (ht : t.bufferUse = s.bufferUse.withPin r none) : s.Leads (t.unpin? o) := by
  cases o with
  | none =>
    refine .of_same (ht.trans ?_)
    have hp : Function.update s.bufferUse.pins r none = s.bufferUse.pins := by rw [← hr]; exact Function.update_eq_self _ _
    rw [BufferUse.withPin, hp]
  | some b => exact State.leads_unpin hr ht

/-- A reader's pin taken, if there is a buffer, once its record holds it. -/
theorem State.leads_pin? {s t : State} {r : Reader} (o : Option BufId) (hr : s.readerPin r = none)
    (ht : t.bufferUse = s.bufferUse.withPin r o) : s.Leads (t.pin? o) := by
  cases o with
  | none =>
    refine .of_same (ht.trans ?_)
    have hp : Function.update s.bufferUse.pins r none = s.bufferUse.pins := by rw [← hr]; exact Function.update_eq_self _ _
    rw [BufferUse.withPin, hp]
  | some b => exact State.leads_pin hr ht

/-- After the releases no area records a pin (R90). -/
theorem State.releaseFeed_pins (s : State) : s.releaseFeed.feed.first.pin = none ∧ s.releaseFeed.feed.second.pin = none := ⟨rfl, rfl⟩

/-- The pins of a frame begin released one after the other, each with its area's record (R90). -/
theorem State.releaseFeed_eq (s : State) :
    s.releaseFeed = ((((s.withFeed { s.feed with first := Area.reset }).unpin? s.feed.first.pin).withFeed
      { s.feed with first := Area.reset, second := Area.reset, frames := s.feed.frames + 1 }).unpin? s.feed.second.pin) := by
  simp only [← State.unpin?_withFeed, State.releaseFeed, State.unpin?_frame]
  rfl

theorem State.leads_releaseFeed (s : State) : s.Leads s.releaseFeed := by
  rw [s.releaseFeed_eq]
  have h1 : s.Leads ((s.withFeed { s.feed with first := Area.reset }).unpin? s.feed.first.pin) :=
    State.leads_unpin? (r := .first) _ rfl (s.bufferUse_withFeed_first _ rfl)
  refine h1.trans (State.leads_unpin? (r := .second) _ ?_ (State.bufferUse_withFeed_second _ _ ?_))
  · simp [State.readerPin]
  · simp

/-- A pin does not look at the feed record. -/
theorem State.pin?_withFeed (s : State) (o : Option BufId) (f : Feed) : (s.pin? o).withFeed f = (s.withFeed f).pin? o := by
  cases o <;> rfl

/-- The sources of a frame pinned one after the other, each with its area's record (R91). -/
theorem State.leads_pinSources (s : State) (h1 : s.feed.first.pin = none) (h2 : s.feed.second.pin = none) :
    s.Leads s.pinSources := by
  have heq : s.pinSources = (((s.withFeed { s.feed with first := Area.showBuffer s.sources.1 }).pin? s.sources.1).withFeed
      { s.feed with first := Area.showBuffer s.sources.1, second := secondArea s.sources.2 }).pin? s.sources.2.join := by
    simp only [← State.pin?_withFeed, State.pinSources, State.pin?_frame]
    rfl
  rw [heq]
  have hsecond : (secondArea s.sources.2).pin = s.sources.2.join := by cases s.sources.2 <;> rfl
  have hfirst : s.Leads ((s.withFeed { s.feed with first := Area.showBuffer s.sources.1 }).pin? s.sources.1) :=
    State.leads_pin? (r := .first) _ h1 (s.bufferUse_withFeed_first _ rfl)
  refine hfirst.trans (State.leads_pin? (r := .second) _ ?_ ?_)
  · simpa [State.readerPin] using h2
  · rw [State.bufferUse_withFeed_second _ _ (by simp), hsecond]

theorem State.leads_beginRunning (s : State) (h1 : s.feed.first.pin = none) (h2 : s.feed.second.pin = none) :
    s.Leads s.beginRunning := by
  unfold State.beginRunning
  split
  · refine .of_same (s.bufferUse_withFeed _ h1.symm ?_)
    rw [h2]
    dsimp only
    split <;> rfl
  · exact s.leads_pinSources h1 h2

theorem State.leads_beginFrame (s : State) (h1 : s.feed.first.pin = none) (h2 : s.feed.second.pin = none) :
    s.Leads s.beginFrame := by
  unfold State.beginFrame
  split
  · exact .refl s
  · split
    · exact .of_same (s.bufferUse_withFeed _ rfl rfl)
    · have hstart := s.bufferUse_withFeed { s.feed with state := .running } rfl rfl
      exact .after (t := s.startFeed) hstart (State.leads_beginRunning _ h1 h2)
  · exact s.leads_beginRunning h1 h2

theorem State.leads_commitAndBegin (s : State) : s.Leads s.commitAndBegin :=
  .after s.bufferUse_commit ((State.leads_releaseFeed _).trans (State.leads_beginFrame _ rfl rfl))

/-- A feed that enters a state with its areas cut keeps its pins (R92). -/
theorem State.bufferUse_enterFeed (s : State) (f : Feed) (c : FeedCause) (h1 : f.first.pin = s.feed.first.pin)
    (h2 : f.second.pin = s.feed.second.pin) : (s.enterFeed f c).bufferUse = s.bufferUse :=
  s.bufferUse_withFeed f h1 h2

theorem State.bufferUse_setOutputMode (s : State) (q : Request) : (s.setOutputMode q).state.bufferUse = s.bufferUse := by
  unfold State.setOutputMode
  split
  · rfl
  · split
    · rfl
    · split
      · exact s.bufferUse_withFeed _ rfl rfl
      · exact s.bufferUse_enterFeed _ _ rfl rfl

/-- The area a fault report names is the record it is kept in (R72, R100). -/
theorem State.area?_some {s : State} {which : FeedArea} {a : Area} (h : s.area? which = some a) :
    a = if which = .right then s.feed.second else s.feed.first := by
  cases which <;> dsimp only [State.area?] at h <;> split at h <;> simp_all

/-- A read fault keeps the area's pin (R100). -/
theorem State.bufferUse_readFault {s : State} {which : FeedArea} {a : Area} (b : BufId) (place : FaultPlace)
    (h : s.area? which = some a) : (s.readFault which a b place).bufferUse = s.bufferUse := by
  have ha := State.area?_some h
  refine s.bufferUse_withFeed _ ?_ ?_ <;> cases which <;> simp_all [Feed.setArea, Area.faulted]

/-! ### The intake unit -/

/-- An intake record that has left RECEIVING and has no write buffer drops the frame (R20, R22). -/
theorem State.leads_dropped (s : State) (i : Intake) (hs : i.state = .seeking) (hw : i.writeBuffer = none) :
    s.Leads (s.withIntake i) := by
  refine .of_step .dropped ?_
  simp only [State.bufferUse, State.intake_withIntake, hs, hw]
  rfl

theorem State.leads_malformed (s : State) : s.Leads s.malformed := s.leads_dropped _ rfl rfl

/-- An intake record that ends the frame in hand, and otherwise keeps its state and write buffer (R18, R28). -/
theorem State.leads_ended (s : State) (i : Intake) (hs : i.state = s.intake.ended.state)
    (hw : i.writeBuffer = s.intake.ended.writeBuffer) : s.Leads (s.withIntake i) := by
  cases hst : s.intake.state with
  | receiving =>
    have he : s.intake.ended = s.intake.abandon := by simp [Intake.ended, hst]
    rw [he] at hs hw
    exact s.leads_dropped i hs hw
  | seeking =>
    have he : s.intake.ended = s.intake := by simp [Intake.ended, hst]
    rw [he] at hs hw
    exact .of_same (s.bufferUse_withIntake i hs hw)

theorem State.leads_lineStart (s : State) : s.Leads (s.withIntake s.intake.lineStart) := by
  unfold Intake.lineStart
  split
  · exact s.leads_dropped _ rfl rfl
  · exact .of_same (s.bufferUse_withIntake _ rfl rfl)

theorem State.leads_pixelPair (s : State) (pair : Pair) : s.Leads (s.withIntake (s.intake.pixelPair pair)) := by
  unfold Intake.pixelPair
  split
  · exact s.leads_dropped _ rfl rfl
  · exact .of_same (s.bufferUse_withIntake _ rfl rfl)

/-- A line written changes the memory alone, which it keeps in canonical form (R1, R21). -/
theorem State.leads_writeLine {s t : State} {y : Nat} {bytes : List Byte} {after : Intake} (h : s.writeLine y bytes after = .next t)
    (hs : after.state = s.intake.state) (hw : after.writeBuffer = s.intake.writeBuffer) : s.Leads t := by
  unfold State.writeLine at h
  split at h
  · cases h; exact .of_same (s.bufferUse_withIntake _ hs hw)
  · next b _ =>
    split at h
    · cases h
    · next hm =>
      cases h
      have hwf : s.Leads (s.withMem (Memory.writeList s.mem (Memory.address b y 0) bytes)) :=
        .of_step (.wrote _ fun w => Memory.wf_writeList _ _ _ (lineMissing_none hm) w) rfl
      exact hwf.before (State.bufferUse_withIntake _ _ hs hw)

theorem State.leads_sensorLineEnd {s t : State} (h : execSensorLineEnd s = .next t) : s.Leads t := by
  unfold execSensorLineEnd at h
  split at h
  · cases h; exact .refl s
  · split at h
    · split at h
      · cases h; exact .of_same (s.bufferUse_withIntake _ rfl rfl)
      · exact State.leads_writeLine h rfl rfl
    · cases h; exact s.leads_malformed

theorem State.leads_sensorFrameEnd {s t : State} (h : execSensorFrameEnd s = .next t) : s.Leads t := by
  unfold execSensorFrameEnd at h
  split at h
  · cases h; exact .refl s
  · split at h
    · exact State.leads_writeLine h rfl rfl
    · cases h; exact s.leads_malformed

theorem State.leads_askWriteBuffer (s : State) : s.Leads s.askWriteBuffer := by
  unfold State.askWriteBuffer
  split
  · next b h => exact .of_step (.received b (List.mem_of_find?_eq_some h)) rfl
  · exact s.leads_dropped _ rfl rfl

theorem State.leads_frameStart (s : State) : s.Leads s.frameStart := by
  unfold State.frameStart
  refine .trans ?_ (State.leads_askWriteBuffer _)
  exact State.Leads.after (t := s.withLight _) rfl (State.leads_ended _ _ rfl rfl)

theorem State.leads_complete (s : State) (b : BufId) (h : s.intake.writeBuffer = some b) : s.Leads (s.complete b) := by
  refine .of_step (.completed b s.intake.info h) ?_
  have hlift := (s.withPool (s.pool.markComplete b s.intake.info)).bufferUse_liftStall
  have hu : (s.complete b).bufferUse = { (s.withPool (s.pool.markComplete b s.intake.info)).liftStall.bufferUse with
    intake := .seeking, writing := none } := rfl
  rw [hu, hlift]
  rfl

theorem State.leads_frameCompletion (s : State) : ∀ t, execFrameCompletion s = .next t → s.Leads t := by
  rintro t h
  cases h
  unfold Intake.awaiting
  split
  · next b hb =>
    split at hb
    · exact s.leads_complete b hb
    · cases hb
  · exact .refl s

theorem State.leads_stall (s : State) : s.Leads s.stall := by
  unfold State.stall
  refine (s.leads_ended s.intake.stall rfl rfl).before ?_
  rw [State.bufferUse_failReservations]
  rfl

theorem State.leads_countOutputFrame (s : State) : s.Leads s.countOutputFrame := by
  have h := s.bufferUse_withIntake s.intake.counted rfl rfl
  unfold State.countOutputFrame
  dsimp only
  split
  · exact .after h (State.leads_stall _)
  · exact .of_same h

/-! ### The page store -/

/-- What a newest take answers (R9). -/
theorem Pool.takeNewest_given {p q : Pool} {role : Role} {b : BufId} {info : FrameMeta}
    (h : p.takeNewest role = (.given b info, q)) : p.Takeable b ∧ (p.bufRec b).complete = some info ∧ q = p.give b role := by
  unfold Pool.takeNewest at h
  split at h
  · cases h
  · next c hc =>
    split at h
    · cases h
    · next i hi =>
      split at h
      · cases h
      · next hl =>
        cases h
        have hm : b ∈ p.ring := (List.mem_filter.1 (List.mem_of_getLast? hc)).1
        exact ⟨⟨.inl hm, by simp [hi], by omega⟩, hi, rfl⟩

/-- What a reported take answers (R9). -/
theorem Pool.takeReported_given {p q : Pool} {role : Role} {c b : BufId} {frame : Word} {info : FrameMeta}
    (h : p.takeReported c frame role = (.given b info, q)) :
    p.Takeable b ∧ (p.bufRec b).complete = some info ∧ q = p.give b role := by
  unfold Pool.takeReported at h
  split at h
  · cases h
  · next i hi =>
    split at h
    · next hr =>
      split at h
      · cases h
      · next hl =>
        cases h
        exact ⟨⟨.inr hr.1, by simp [hi], by omega⟩, hi, rfl⟩
    · cases h

/-- The use once a page is stored in a slot. -/
theorem State.leads_stored (s : State) {k : SlotId} {b : BufId} (hk : (s.store.page k).buffer? = none) (hb : s.pool.Takeable b)
    (st : Store) (tag : PageTag) (d : PageData) (hd : d.buffer = b) (hst : st.pages = (s.store.setPage k (.stored tag d)).pages)
    {t : State} (ht : t.bufferUse = ((s.withPool (s.pool.give b .page)).withStore st).bufferUse) : s.Leads t := by
  refine .of_step (.stored k b hk hb) (ht.trans ?_)
  have hp : (fun j => (st.page j).buffer?) = Function.update (fun j => (s.store.page j).buffer?) k (some b) := by
    funext j
    have hj : st.page j = (s.store.setPage k (.stored tag d)).page j := by simp only [Store.page, hst]
    rw [hj, Store.page_setPage, Function.update_apply, ← hd]
    split <;> rfl
  simp only [State.bufferUse, State.store_withStore, hp]
  rfl

/-- An EMPTY record holds no buffer. -/
theorem Store.lowestEmpty_page {st : Store} {k : SlotId} (h : st.lowestEmpty = some k) : st.page k = .empty := by
  simpa using List.find?_some h

theorem State.leads_storingAuto (s : State) {k : SlotId} (trigger : Trigger) {b : BufId} (info : FrameMeta)
    (hk : s.store.lowestEmpty = some k) (hb : s.pool.Takeable b) :
    s.Leads (s.storingAuto k trigger b info (s.pool.give b .page)).state :=
  s.leads_stored (by rw [Store.lowestEmpty_page hk]; rfl) hb _ _ _ rfl rfl rfl

theorem State.bufferUse_skipping (s : State) (g : Trigger) (c : SkipCause) (w : Word) :
    (s.skipping g c w).state.bufferUse = s.bufferUse := rfl

theorem State.leads_capturingTimed (s : State) : s.Leads s.capturingTimed.state := by
  unfold State.capturingTimed
  split
  · exact .of_same rfl
  · next k hk =>
    split
    · next b info pool h =>
      obtain ⟨hb, -, rfl⟩ := Pool.takeNewest_given h
      exact s.leads_storingAuto _ _ hk hb
    · exact .of_same rfl
    · exact .of_same rfl

theorem State.leads_capturingTurn (s : State) (r : Report) : s.Leads (s.capturingTurn r).state := by
  unfold State.capturingTurn
  split
  · exact .of_same rfl
  · split
    · exact .of_same rfl
    · next k hk =>
      split
      · next b info pool h =>
        obtain ⟨hb, -, rfl⟩ := Pool.takeReported_given h
        exact s.leads_storingAuto _ _ hk hb
      · exact .of_same rfl
      · exact .of_same rfl

theorem State.leads_fill (s : State) (r : Report) (k : SlotId) : s.Leads (s.fill r k) := by
  unfold State.fill
  split
  · next tag after hk =>
    split
    · split
      · next b info pool h =>
        obtain ⟨hb, -, rfl⟩ := Pool.takeReported_given h
        exact s.leads_stored (by rw [hk]; rfl) hb _ _ _ rfl rfl rfl
      · exact .refl s
    · exact .refl s
  · exact .refl s

theorem State.leads_foldl {α : Type} (f : State → α → State) (h : ∀ s a, State.Leads s (f s a)) (l : List α) (s : State) :
    s.Leads (l.foldl f s) := by
  induction l generalizing s with
  | nil => exact .refl s
  | cons a l ih => exact (h s a).trans (ih _)

theorem State.leads_pageTurn (s : State) (r : Report) : s.Leads (s.pageTurn r) :=
  (s.leads_capturingTurn r).before (State.bufferUse_offer _ _)

theorem State.leads_storeReport (s : State) (r : StoreReport) : s.Leads (s.storeReport r) := by
  have hfill : s.Leads (s.fillAll r.report) := State.leads_foldl _ (fun t k => t.leads_fill r.report k) _ s
  unfold State.storeReport
  dsimp only
  split
  · exact hfill.trans (State.leads_pageTurn _ _)
  · exact hfill

theorem State.leads_storeNextReport (s : State) : s.Leads s.storeNextReport := by
  unfold State.storeNextReport
  split
  · exact .refl s
  · next r rest _ =>
    have htaken := s.bufferUse_withStore { s.store with reports := rest } fun _ => rfl
    exact .after htaken (State.leads_storeReport _ _)

theorem State.leads_lessonPause (s : State) (p : Port) : s.Leads (s.lessonPause p).state := by
  unfold State.lessonPause
  split <;> exact .of_same rfl

theorem State.leads_meetPause (s : State) (o : Option Port) : s.Leads (s.meetPause o) := by
  unfold State.meetPause
  split
  · exact s.leads_serve _ _ _ fun q => s.leads_lessonPause _
  · exact .refl s

theorem State.leads_lessonSecond (s : State) (o : Option Port) : s.Leads (s.lessonSecond o) := by
  unfold State.lessonSecond
  split
  · exact .refl s
  · split
    · refine .after (s.bufferUse_withLesson { s.lesson with timed := 0 }) ?_
      exact ((State.leads_capturingTimed _).trans (State.leads_meetPause _ o)).before rfl
    · exact .of_same rfl

theorem State.leads_clockTick (s : State) (o : Option Port) : s.Leads (s.clockTick o) := by
  unfold State.clockTick
  dsimp only
  split
  · exact .after (s.bufferUse_withLesson _) (State.leads_lessonSecond _ o)
  · exact .of_same rfl

theorem State.leads_capture (s : State) (p : Port) (q : Request) : s.Leads (s.capture p q).state := by
  unfold State.capture
  dsimp only
  split
  · exact .refl s
  · split
    · exact .refl s
    · split
      · exact .refl s
      · next k hk =>
        have hnone : (s.store.page k).buffer? = none := by rw [Store.lowestEmpty_page hk]; rfl
        split
        · unfold State.captureNow
          split
          · next b info pool h =>
            obtain ⟨hb, -, rfl⟩ := Pool.takeNewest_given h
            exact s.leads_stored hnone hb _ _ _ rfl rfl rfl
          · exact .refl s
          · exact .refl s
        · exact .of_same (s.bufferUse_setPage k _ _ rfl hnone.symm)

theorem State.leads_discard (s : State) (p : Port) (q : Request) : s.Leads (s.discard p q).state := by
  unfold State.discard
  split
  · exact .refl s
  · next k _ =>
    split
    · next tag after hk =>
      split
      · exact .of_same (s.bufferUse_setPage k .empty _ rfl (by rw [hk]; rfl))
      · exact .refl s
    · next tag d hk =>
      split
      · unfold State.discardStored
        split
        · exact .refl s
        · split
          · exact .of_same (s.bufferUse_setPage k (.discarding tag d p) _ rfl (by rw [hk]; rfl))
          · exact (s.leads_freed k d.buffer _ rfl (by rw [hk]; rfl)).before rfl
      · exact .refl s
    · exact .refl s

theorem State.bufferUse_setLabel (s : State) (q : Request) : (s.setLabel q).state.bufferUse = s.bufferUse := by
  unfold State.setLabel
  dsimp only
  split
  · rfl
  · split
    · rfl
    · next k _ =>
      split
      · next hk =>
        split
        · exact s.bufferUse_setPage k _ _ rfl (by rw [hk]; rfl)
        · rfl
      · next hk =>
        split
        · exact s.bufferUse_setPage k _ _ rfl (by rw [hk]; rfl)
        · rfl
      · rfl

/-! ### The view unit -/

theorem State.leads_freeze (s : State) (p : Port) : s.Leads (s.freeze p).state := by
  unfold State.freeze
  split
  · exact .of_same (s.bufferUse_withStaged _ rfl)
  · next hf =>
    split
    · next b info pool h =>
      obtain ⟨hb, -, rfl⟩ := Pool.takeNewest_given h
      exact .of_step (.froze b (by simpa [State.bufferUse] using hf) hb) rfl
    · exact .refl s
    · exact .refl s

theorem State.leads_unfreeze (s : State) (p : Port) : s.Leads (s.unfreeze p).state := by
  unfold State.unfreeze
  split
  · next hf =>
    unfold State.releaseHeld
    split
    · next b hb => exact .of_step (.thawed b hf hb) rfl
    · next hb =>
      refine .of_step (.thawedNone hf hb) ?_
      simp only [State.bufferUse, hb]
      rfl
  · exact .of_same (s.bufferUse_withStaged _ rfl)

theorem State.bufferUse_sourcePage (s : State) (p : Port) (source : Source) (a b : Nat) :
    (s.sourcePage p source a b).state.bufferUse = s.bufferUse := by
  unfold State.sourcePage
  split
  · rfl
  · split
    · rfl
    · exact s.bufferUse_withStaged _ rfl

theorem State.bufferUse_setSource (s : State) (p : Port) (q : Request) : (s.setSource p q).state.bufferUse = s.bufferUse := by
  unfold State.setSource
  split
  · rfl
  · exact s.bufferUse_withStaged _ rfl
  · exact s.bufferUse_sourcePage ..
  · exact s.bufferUse_sourcePage ..

/-! ### Requests that use the buffers as before -/

theorem State.bufferUse_setExposure (s : State) (q : Request) : (s.setExposure q).state.bufferUse = s.bufferUse := by
  unfold State.setExposure
  split <;> rfl

theorem State.bufferUse_setLamp (s : State) (q : Request) : (s.setLamp q).state.bufferUse = s.bufferUse := by
  unfold State.setLamp
  split
  · rfl
  · dsimp only
    split <;> rfl

theorem State.bufferUse_setClarity (s : State) (q : Request) : (s.setClarity q).state.bufferUse = s.bufferUse := by
  unfold State.setClarity
  split
  · rfl
  · exact s.bufferUse_withIntake _ rfl rfl

theorem State.bufferUse_claim (s : State) (p : Port) (q : Request) : (s.claim p q).state.bufferUse = s.bufferUse := by
  unfold State.claim
  split
  · rfl
  · dsimp only
    split
    · rfl
    · split
      · exact State.bufferUse_settle _
      · split
        · exact State.bufferUse_settle _
        · split
          · exact State.bufferUse_settle _
          · rfl

theorem State.bufferUse_release (s : State) (p : Port) : (s.release p).state.bufferUse = s.bufferUse := by
  simp only [State.release, Answer.ok]
  split
  · exact s.bufferUse_passOn _
  · rfl

theorem State.bufferUse_setParam (s : State) (p : Port) (q : Request) : (s.setParam p q).state.bufferUse = s.bufferUse := by
  unfold State.setParam
  dsimp only
  split
  · split <;> rfl
  · split
    · exact State.bufferUse_ownerActs _ _ _
    · rfl

theorem State.bufferUse_getParam (s : State) (p : Port) (q : Request) : (s.getParam p q).state.bufferUse = s.bufferUse := by
  unfold State.getParam
  dsimp only
  split
  · rfl
  · split <;> rfl

theorem State.bufferUse_pageRead (s : State) (q : Request) : (s.pageRead q).state.bufferUse = s.bufferUse := by
  unfold State.pageRead
  split <;> rfl

theorem State.bufferUse_thumbRead (s : State) (q : Request) : (s.thumbRead q).state.bufferUse = s.bufferUse := by
  unfold State.thumbRead State.liveThumb
  dsimp only
  split
  · rfl
  · split
    · split
      · rfl
      · split <;> rfl
    · split
      · rfl
      · split <;> rfl

theorem State.bufferUse_lessonStart (s : State) (p : Port) : (s.lessonStart p).state.bufferUse = s.bufferUse := by
  unfold State.lessonStart
  split <;> rfl

theorem State.bufferUse_lessonResume (s : State) (p : Port) : (s.lessonResume p).state.bufferUse = s.bufferUse := by
  unfold State.lessonResume
  split <;> rfl

theorem State.bufferUse_lessonEnd (s : State) (p : Port) : (s.lessonEnd p).state.bufferUse = s.bufferUse := by
  unfold State.lessonEnd
  split <;> rfl

theorem State.bufferUse_lessonClear (s : State) : s.lessonClear.state.bufferUse = s.bufferUse := by
  unfold State.lessonClear
  split <;> rfl

theorem State.leads_lose (s : State) (p : Port) : s.Leads (s.lose p) := by
  have hreset := (s.setPort p { s.port p with present := false, write := none }).bufferUse_portReset p none
  unfold State.lose
  dsimp only
  split
  · exact .after hreset (State.leads_halt _ _)
  · exact .of_same hreset

theorem State.bufferUse_lightReport (s : State) : s.lightReport.bufferUse = s.bufferUse := by
  unfold State.lightReport
  split <;> rfl

theorem State.bufferUse_motionReport (s : State) : s.motionReport.bufferUse = s.bufferUse := by
  unfold State.motionReport
  split
  · rfl
  · exact State.bufferUse_withStore _ _ fun _ => rfl

/-- A command that does something on an occasion only. -/
theorem State.leads_ite {s t u : State} {c : Prop} [Decidable c] (h : (.next (if c then t else s) : Host.Outcome State Fault Refusal) = .next u)
    (ht : c → s.Leads t) : s.Leads u := by
  cases h
  split
  · next hc => exact ht hc
  · exact .refl s

end Sys2Proof.Machine

/-! SUPPORT. Commands: every command and every step of the part as a run of buffer-use steps, and the three invariants that follow. -/
namespace Sys2Proof.Machine

/-- Every command that answers a next state makes steps of its buffer use. -/
theorem exec_leads {i : Instr} {s t : State} (h : exec i s = .next t) : s.Leads t := by
  cases i with
  | partReset sense panel desk recorder => cases h; exact .of_step .reset rfl
  | requestWrite p part => cases h; exact .of_same rfl
  | fetch p part => cases h; exact .of_same rfl
  | unknownRequestCode p =>
    cases h
    split
    · exact .refl s
    · split
      · exact .refl s
      · exact .of_same rfl
  | presenceLost p => exact State.leads_ite h fun _ => s.leads_lose p
  | presenceRestored p => cases h; exact .of_same rfl
  | partRead p part =>
    cases part with
    | ask block => cases h; exact .of_same (s.bufferUse_askBlock p block)
    | rest => exact leads_serveOpen h fun _ => .of_same rfl
  | setParam p => exact leads_serveOpen h fun q => .of_same (s.bufferUse_setParam p q)
  | getParam p => exact leads_serveOpen h fun q => .of_same (s.bufferUse_getParam p q)
  | portReset p => exact leads_serveOpen h fun _ => .of_same (s.bufferUse_portReset p _)
  | claimView p => exact leads_serveOpen h fun q => .of_same (s.bufferUse_claim p q)
  | releaseView p => exact leads_serveOpen h fun _ => .of_same (s.bufferUse_release p)
  | withdrawClaim p => exact leads_serveOpen h fun _ => .of_same rfl
  | tenancyRead p => exact leads_serveOpen h fun _ => .refl s
  | idleYield => exact State.leads_ite h fun _ => .of_same s.bufferUse_tenancyTick
  | zoomTo p => exact leads_serveGated h fun _ u => .of_same (u.bufferUse_withStaged _ rfl)
  | zoomBy p => exact leads_serveGated h fun _ u => .of_same (u.bufferUse_withStaged _ rfl)
  | panTo p => exact leads_serveGated h fun _ u => .of_same (u.bufferUse_withStaged _ rfl)
  | panBy p => exact leads_serveGated h fun _ u => .of_same (u.bufferUse_withStaged _ rfl)
  | setSource p => exact leads_serveGated h fun q u => .of_same (u.bufferUse_setSource p q)
  | freeze p => exact leads_serveGated h fun _ u => u.leads_freeze p
  | unfreeze p => exact leads_serveGated h fun _ u => u.leads_unfreeze p
  | blank p => exact leads_serveGated h fun _ u => .of_same (u.bufferUse_withStaged _ rfl)
  | unblank p => exact leads_serveGated h fun _ u => .of_same (u.bufferUse_withStaged _ rfl)
  | viewRead p => exact leads_serveOpen h fun _ => .refl s
  | setClarity p => exact leads_serveGated h fun q u => .of_same (u.bufferUse_setClarity q)
  | setExposure p => exact leads_serveGated h fun q u => .of_same (u.bufferUse_setExposure q)
  | setLamp p => exact leads_serveGated h fun q u => .of_same (u.bufferUse_setLamp q)
  | pictureRead p => exact leads_serveOpen h fun _ => .refl s
  | setOutputMode p => exact leads_serveGated h fun q u => .of_same (u.bufferUse_setOutputMode q)
  | feedRead p => exact leads_serveOpen h fun _ => .refl s
  | captureNow p => cases h; exact s.leads_serve p _ _ fun q => s.leads_capture p q
  | captureNext p => cases h; exact s.leads_serve p _ _ fun q => s.leads_capture p q
  | discard p => exact leads_serveOpen h fun q => s.leads_discard p q
  | label p => exact leads_serveOpen h fun q => .of_same (s.bufferUse_setLabel q)
  | pageRead p => exact leads_serveOpen h fun q => .of_same (s.bufferUse_pageRead q)
  | thumbRead p => exact leads_serveOpen h fun q => .of_same (s.bufferUse_thumbRead q)
  | lessonStart p => exact leads_serveOpen h fun _ => .of_same (s.bufferUse_lessonStart p)
  | lessonPause p => cases h; exact s.leads_meetPause (some p)
  | lessonResume p => exact leads_serveOpen h fun _ => .of_same (s.bufferUse_lessonResume p)
  | lessonEnd p => exact leads_serveOpen h fun _ => .of_same (s.bufferUse_lessonEnd p)
  | lessonClear p => exact leads_serveOpen h fun _ => .of_same s.bufferUse_lessonClear
  | lessonRead p => exact leads_serveOpen h fun _ => .refl s
  | exportPage p => exact leads_serveOpen h fun q => s.leads_exportPage p q
  | exportStop p => exact leads_serveOpen h fun q => s.leads_exportStop q
  | exportContinue p => exact leads_serveOpen h fun q => s.leads_exportContinue q
  | exportResume p => exact leads_serveOpen h fun _ => s.leads_exportResume
  | exportRead p => exact leads_serveOpen h fun _ => .refl s
  | sensorFrameStart elapsed => cases h; exact .after (s.bufferUse_withTimer _) (State.leads_frameStart _)
  | sensorLineStart =>
    cases h
    split
    · exact .refl s
    · exact s.leads_lineStart
  | sensorPixelPair pair =>
    cases h
    split
    · exact .refl s
    · exact s.leads_pixelPair pair
  | sensorLineEnd => exact State.leads_sensorLineEnd h
  | sensorFrameEnd => exact State.leads_sensorFrameEnd h
  | frameCompletion => exact s.leads_frameCompletion t h
  | intakeWriteFault buffer => exact State.leads_ite h fun _ => s.leads_malformed
  | stallEvent => exact State.leads_ite h fun _ => s.leads_countOutputFrame
  | lightFrameReport => cases h; exact .of_same s.bufferUse_lightReport
  | autoLampStep => exact State.leads_ite h fun _ => .of_same s.bufferUse_lightReport
  | motionFrameReport => cases h; exact .of_same s.bufferUse_motionReport
  | detectorFire => exact State.leads_ite h fun _ => .of_same s.bufferUse_motionReport
  | pageStoreFrameReport => cases h; exact s.leads_storeNextReport
  | outputFrameStart => cases h; exact s.leads_commitAndBegin.trans (State.leads_countOutputFrame _)
  | feedStarted => exact State.leads_ite h fun _ => s.leads_commitAndBegin
  | sensePresent =>
    cases h
    split
    · exact .refl s
    · exact .of_same (s.bufferUse_enterFeed _ _ rfl rfl)
  | senseAbsent => exact State.leads_ite h fun _ => .of_same (s.bufferUse_enterFeed _ _ rfl rfl)
  | feedReadFault area buffer line pair =>
    cases h
    split
    · next a ha =>
      split
      · exact .of_same (State.bufferUse_readFault buffer _ ha)
      · exact .refl s
    · exact .refl s
  | millisecondTick pause =>
    cases h
    have htick := (State.leads_clockTick s.tenancyTick pause).before (State.bufferUse_timelineTick _)
    exact .after s.bufferUse_tenancyTick (htick.trans (State.leads_linkTick _))
  | clockCentisecond pause => exact State.leads_ite h fun _ => s.leads_clockTick pause
  | timedCaptureExpiry pause => exact State.leads_ite h fun _ => s.leads_lessonSecond pause
  | lampPulseStart => cases h; exact .of_same rfl
  | lampOnTimeEnd => exact State.leads_ite h fun _ => .of_same rfl
  | exportPull part =>
    cases part with
    | opening => exact State.leads_openTransfer h
    | clock count => cases h; exact s.leads_clockTransfer count
    | closing => cases h; exact s.leads_closeTransfer
  | exportDeliveryCompleted => cases h; exact s.leads_lastByte
  | exportDeliveryTimeout => exact State.leads_ite h fun _ => s.leads_linkTick
  | exportLinkError => cases h; exact s.leads_halt _
  | exportMemoryFault channel buffer => exact State.leads_ite h fun _ => s.leads_halt _

/-- Every step of the part makes steps of its buffer use. -/
theorem step_leads {s t : State} (h : step s = .next t) : s.Leads t := by
  unfold step at h
  split at h
  · cases h; exact .of_same rfl
  · exact .after (s.bufferUse_withPending _) (exec_leads h)

/-- Settles O5: the frame memory is changed by a line written alone, inside the memory. -/
theorem frameMemoryStaysCanonical : Obligations.FrameMemoryStaysCanonical :=
  fun _ _ hs h => (step_leads h).memoryOk hs

/-- Settles O11: the roles, the ring and the write buffer are kept by every step of the buffer use. -/
theorem bufferRolesStayConsistent : Obligations.BufferRolesStayConsistent :=
  fun _ _ hs hw h => (step_leads h).rolesOk hs hw

/-- Settles O12: a pin is taken and released together with its reader's record of it. -/
theorem pinCountsStayTheReaders : Obligations.PinCountsStayTheReaders :=
  fun _ _ hs h => (step_leads h).pinsOk hs

end Sys2Proof.Machine

/-! SUPPORT. Answers: what a command that hands on a request comes to, and what the pool answers to a take, a release and a request for
a write buffer, in the words of the statements. -/
namespace Sys2Proof.Statements

open Sys2Proof.Machine

/-! ### Requests handed on (R104, R110, R181) -/

/-- A request of an allowed length that is not gated is carried out and answered. -/
theorem serveOpen_eq {s : State} {p : Port} {k : Fin 4} {q : Request} {code : Byte} {args : List Byte} {n : Nat}
    {body : Request → State → Answer} (h : Hands s p k q code args) (hn : code.toNat = n) (hl : lengthAllowed q = true) :
    serveOpen n p body s = .next ((body q s).state.reply p k q (body q s).status (body q s).results) := by
  obtain ⟨hc, hq, -⟩ := h
  unfold serveOpen
  rw [State.serve_eq s p _ body k q hc (by simp [Request.hasCode, hq, hn]) hl]

/-- The holder's gated request is carried out with the idle time at 0, and where it leaves the tenancy record, no waiter takes the
view after it. -/
theorem serveGated_eq {s : State} {p : Port} {k : Fin 4} {q : Request} {code : Byte} {args : List Byte} {n : Nat}
    {body : Request → State → Answer} (h : Hands s p k q code args) (hn : code.toNat = n) (hl : lengthAllowed q = true)
    (hold : Holding s p) (hb : (body q (admitted s)).state.tenancy = (admitted s).tenancy) :
    serveGated n p body s = .next
      ((body q (admitted s)).state.reply p k q (body q (admitted s)).status (body q (admitted s)).results) := by
  obtain ⟨hc, hq, -⟩ := h
  obtain ⟨hh, hsingle⟩ := hold
  have hgate : State.gated p body q s = body q (admitted s) := by
    have hpass : s.passTenancy p = some (admitted s) := s.passTenancy_holder p hh
    have hstep : (body q (admitted s)).state.singleUseStep = (body q (admitted s)).state :=
      State.singleUseStep_eq _ (by rw [hb]; exact hsingle)
    simp only [State.gated, hpass, hstep]
  unfold serveGated
  rw [State.serve_eq s p _ _ k q hc (by simp [Request.hasCode, hq, hn]) hl, hgate]

/-! ### The newest complete buffer (section 1.4) -/

theorem newest_eq_some {pool : Pool} {b : BufId} : pool.newest = some b ↔ ∃ info, NewestComplete pool b info := by
  unfold Pool.newest
  rw [List.getLast?_eq_some_iff]
  constructor
  · rintro ⟨done, h⟩
    obtain ⟨before, rest, hring, -, hrest⟩ := List.filter_eq_append_iff.1 h
    obtain ⟨skipped, after, rfl, hskip, hb, hafter⟩ := List.filter_eq_cons_iff.1 hrest
    obtain ⟨info, hinfo⟩ := Option.isSome_iff_exists.1 hb
    refine ⟨info, before ++ skipped, after, by simp [hring], hinfo, fun x hx => ?_⟩
    simpa [Pool.isComplete] using List.filter_eq_nil_iff.1 hafter x hx
  · rintro ⟨info, before, after, hring, hb, hafter⟩
    have hnone : after.filter pool.isComplete = [] :=
      List.filter_eq_nil_iff.2 fun x hx => by simp [Pool.isComplete, hafter x hx]
    exact ⟨before.filter pool.isComplete, by simp [hring, List.filter_append, Pool.isComplete, hb, hnone]⟩

theorem NewestComplete.newest {pool : Pool} {b : BufId} {info : FrameMeta} (h : NewestComplete pool b info) :
    pool.newest = some b :=
  newest_eq_some.2 ⟨info, h⟩

theorem NewestComplete.complete {pool : Pool} {b : BufId} {info : FrameMeta} (h : NewestComplete pool b info) :
    (pool.bufRec b).complete = some info := by
  obtain ⟨-, -, -, hb, -⟩ := h
  exact hb

theorem newest_eq_none {pool : Pool} (h : ∀ x ∈ pool.ring, (pool.bufRec x).complete = none) : pool.newest = none :=
  pool.newest_eq_none fun x hx => by simp [Pool.isComplete, h x hx]

/-! ### Takes (R6, R9) -/

/-- The lowest-numbered FREE buffer is the first one (R6). -/
theorem lowestFree_eq {pool : Pool} {c : BufId} (hc : (pool.bufRec c).role = .free)
    (hlow : ∀ x, x < c → (pool.bufRec x).role ≠ .free) : pool.lowestFree = some c := by
  unfold Pool.lowestFree
  rw [List.find?_eq_some_iff_getElem]
  refine ⟨by simpa using hc, c.val, by simp, by simp, fun j hj => ?_⟩
  simpa using hlow ⟨j, by omega⟩ hj

/-- A buffer taken from a ring of 3 leaves the pool that `Taken` names. -/
theorem Taken.give_eq {pool after : Pool} {b : BufId} {role : Role} (h : Taken pool b role after) (hr : role.inUse = true) :
    pool.give b role = after := by
  obtain ⟨⟨hlen, hmem⟩, hcase⟩ := h
  have hne : role ≠ .free := by rintro rfl; cases hr
  have hshort : (pool.taken b role).ring.length < 3 := by
    rw [Pool.ring_taken, List.length_erase_of_mem hmem]; omega
  have hrole : ∀ x, x ≠ b → ((pool.taken b role).bufRec x).role = (pool.bufRec x).role := fun x hx => by
    rw [Pool.bufRec_taken, if_neg hx]
  rw [Pool.give_eq_refill, Pool.refill, if_pos hshort]
  rcases hcase with ⟨hnone, rfl⟩ | ⟨c, hcb, hc, hlow, rfl⟩
  · have hf : (pool.taken b role).lowestFree = none := by
      refine Pool.lowestFree_eq_none.2 fun x => ?_
      by_cases hx : x = b
      · rw [hx, Pool.bufRec_taken, if_pos rfl]; exact hne
      · rw [hrole x hx]; exact hnone x hx
    rw [hf]
    rfl
  · have hf : (pool.taken b role).lowestFree = some c := by
      refine lowestFree_eq ((hrole c hcb).trans hc) fun x hx => ?_
      by_cases hxb : x = b
      · rw [hxb, Pool.bufRec_taken, if_pos rfl]; exact hne
      · rw [hrole x hxb]; exact hlow x hx hxb
    have hrec : (pool.taken b role).bufRec c = pool.bufRec c := by rw [Pool.bufRec_taken, if_neg hcb]
    rw [hf]
    simp only [Pool.joinRing, hrec]
    rfl

theorem Taken.ring_length {pool after : Pool} {b : BufId} {role : Role} (h : Taken pool b role after) :
    ¬ pool.ring.length ≤ 2 := by
  obtain ⟨⟨hlen, -⟩, -⟩ := h
  omega

theorem takeNewest_noFrame {pool : Pool} (role : Role) (h : ∀ x ∈ pool.ring, (pool.bufRec x).complete = none) :
    pool.takeNewest role = (.noFrame, pool) := by
  simp [Pool.takeNewest, newest_eq_none h]

theorem takeNewest_ringShort {pool : Pool} (role : Role) {b : BufId} {info : FrameMeta} (h : NewestComplete pool b info)
    (hl : pool.ring.length ≤ 2) : pool.takeNewest role = (.ringShort, pool) := by
  simp [Pool.takeNewest, h.newest, h.complete, hl]

theorem takeNewest_taken {pool after : Pool} {role : Role} {b : BufId} {info : FrameMeta} (h : NewestComplete pool b info)
    (ht : Taken pool b role after) (hr : role.inUse = true) : pool.takeNewest role = (.given b info, after) := by
  simp [Pool.takeNewest, h.newest, h.complete, ht.ring_length, ht.give_eq hr]

theorem takeReported_gone {pool : Pool} {b : BufId} {frame : Word} (role : Role)
    (h : (pool.bufRec b).role ≠ .ring ∨ ∀ info, (pool.bufRec b).complete = some info → info.frame ≠ frame) :
    pool.takeReported b frame role = (.gone, pool) := by
  unfold Pool.takeReported
  split
  · rfl
  · next info hi => rw [if_neg (by rintro ⟨hr, hf⟩; exact h.elim (· hr) (· info hi hf))]

theorem takeReported_ringShort {pool : Pool} {b : BufId} {frame : Word} (role : Role) {info : FrameMeta}
    (hr : (pool.bufRec b).role = .ring) (hi : (pool.bufRec b).complete = some info) (hf : info.frame = frame)
    (hl : pool.ring.length ≤ 2) : pool.takeReported b frame role = (.ringShort, pool) := by
  simp [Pool.takeReported, hr, hi, hf, hl]

theorem takeReported_taken {pool after : Pool} {b : BufId} {frame : Word} {role : Role} {info : FrameMeta}
    (hb : (pool.bufRec b).role = .ring) (hi : (pool.bufRec b).complete = some info) (hf : info.frame = frame)
    (ht : Taken pool b role after) (hr : role.inUse = true) : pool.takeReported b frame role = (.given b info, after) := by
  simp [Pool.takeReported, hb, hi, hf, ht.ring_length, ht.give_eq hr]

/-! ### Releases (R6, R11) -/

theorem release_full {pool : Pool} {b : BufId} (hp : (pool.bufRec b).pins = 0) (hl : 3 ≤ pool.ring.length) :
    pool.release b = pool.setRec b { role := .free, pins := 0, complete := none } := by
  simp only [pool.release_unpinned b hp, pool.setFree_full b hl, hp]

theorem release_short {pool : Pool} {b : BufId} (hp : (pool.bufRec b).pins = 0) (hl : pool.ring.length < 3) :
    pool.release b =
      { pool.setRec b { role := .ring, pins := 0, complete := none } with ring := b :: pool.ring } := by
  simp only [pool.release_unpinned b hp, pool.setFree_short b hl, Pool.joinRing, hp]

end Sys2Proof.Statements

/-! SUPPORT. Frames in the pool: the part reset, pins and their release, FREEZE and UNFREEZE, the start and the completion of a frame,
in the words of the statements. -/
namespace Sys2Proof.Statements

open Sys2Proof.Machine

/-! ### Reset -/

/-- Settles O3: the state after a part reset is written out block by block, so each figure is the one of its reset record. -/
theorem partResetReturnsEveryBlock : Obligations.PartResetReturnsEveryBlock := by
  intro s sense panel desk recorder
  have hbuf : ∀ b : BufId, Pool.reset.bufRec b = { role := if b.val ≤ 2 then .ring else .free, pins := 0, complete := none } := by
    decide
  have hpage : ∀ k : SlotId, Store.reset.page k = .empty := by decide
  have hareas : ∀ a ∈ [Area.reset, Area.reset], a.pin = none ∧ a.showing = .blackState ∧ a.fault = none := by decide
  have hslots : ∀ (present : Bool) (k : Fin 4), (PortRec.reset present).slots[k] = .free := by decide
  refine ⟨s.afterReset sense panel desk recorder, rfl, rfl, rfl, rfl, rfl, hbuf, ?_, ?_, ?_, rfl, rfl, rfl, rfl, rfl, rfl, rfl,
    ⟨rfl, rfl, rfl, rfl, rfl, rfl, hareas⟩, rfl, hpage, rfl, rfl, rfl, rfl, rfl, ?_, rfl, ?_, rfl, rfl, rfl⟩
  · exact ⟨rfl, rfl, rfl, rfl, rfl, rfl, rfl, rfl, rfl, rfl, rfl, rfl, rfl, rfl, rfl, rfl, rfl, rfl, rfl, rfl, rfl, rfl, rfl, rfl⟩
  · exact ⟨rfl, rfl, rfl, rfl, rfl, rfl, rfl, rfl, rfl, rfl, rfl, rfl, rfl, rfl, rfl, rfl, rfl⟩
  · exact ⟨rfl, rfl, rfl, rfl, rfl⟩
  · exact ⟨rfl, rfl, rfl, rfl, rfl, rfl, rfl, rfl, rfl⟩
  · have hport : ∀ present : Bool, (∀ k : Fin 4, (PortRec.reset present).slots[k] = .free) ∧
        (PortRec.reset present).attention = false := fun present => ⟨hslots present, by cases present <;> decide⟩
    intro p
    cases p
    · exact ⟨hslots panel, rfl, rfl, rfl, rfl, (hport panel).2, rfl, rfl, rfl, rfl⟩
    · exact ⟨hslots desk, rfl, rfl, rfl, rfl, (hport desk).2, rfl, rfl, rfl, rfl⟩
    · exact ⟨hslots recorder, rfl, rfl, rfl, rfl, (hport recorder).2, rfl, rfl, rfl, rfl⟩

/-- Settles O4: the reset state is a literal, and each invariant is decided of it. -/
theorem resetMeetsTheInvariants : Obligations.ResetMeetsTheInvariants := by
  have hroles : State.reset.rolesOk := State.reset.rolesOk_iff.2 (BufferUse.rolesOk_reset [])
  refine ⟨rfl, by decide, by decide, by decide, by decide, by decide, by decide, hroles, by decide, by decide, by decide, by decide,
    by decide, by decide⟩

/-! ### Pins -/

/-- No DISCARDING record is found for a buffer that none holds. -/
theorem discardingOf_eq_none {st : Store} {b : BufId}
    (h : ∀ k tag d by_, st.page k = .discarding tag d by_ → d.buffer ≠ b) : st.discardingOf b = none := by
  refine List.findSome?_eq_none_iff.2 fun k _ => ?_
  split
  · next tag d by_ hp => exact if_neg (h k tag d by_ hp)
  · rfl

/-- The DISCARDING record that holds a buffer is found where no two records hold one buffer. -/
theorem discardingOf_eq_some {s : State} {b : BufId} (hs : s.rolesOk) {k : SlotId} {tag : PageTag} {d : PageData} {by_ : Port}
    (hk : s.store.page k = .discarding tag d by_) (hb : d.buffer = b) :
    s.store.discardingOf b = some (k, tag.serial, by_) := by
  cases hf : s.store.discardingOf b with
  | none =>
    have hnone := List.findSome?_eq_none_iff.1 hf k (List.mem_finRange k)
    rw [show s.store.pages[k] = PageRec.discarding tag d by_ from hk] at hnone
    simp [hb] at hnone
  | some found =>
    obtain ⟨j, n, p⟩ := found
    obtain ⟨tag', d', hj, hb', hn⟩ := Store.discardingOf_some hf
    have hjk : j = k := by
      by_contra hne
      refine (s.rolesOk_iff.1 hs).pages_ne j k hne ?_ ?_ <;> simp [State.bufferUse, hj, hk, PageRec.buffer?, hb, hb']
    subst hjk
    rw [hj] at hk
    cases hk
    rw [hn]

/-- A release that leaves the buffer pinned, or not a page, is the pool's own. -/
theorem unpin_eq_withPool {s : State} {b : BufId}
    (h : ¬ (((s.pool.unpin b).bufRec b).pins = 0 ∧ ((s.pool.unpin b).bufRec b).role = .page)) :
    s.unpin b = s.withPool (s.pool.unpin b) := by
  unfold State.unpin
  dsimp only
  exact if_neg h

/-- The last pin of a PAGE buffer is told to the page store. -/
theorem unpin_page {s : State} {b : BufId} (hp : (s.pool.bufRec b).pins = 1) (hr : (s.pool.bufRec b).role = .page) :
    s.unpin b = (s.withPool (s.pool.setRec b { s.pool.bufRec b with pins := 0 })).pinsGone b := by
  have hq : s.pool.unpin b = s.pool.setRec b { s.pool.bufRec b with pins := 0 } := by
    rw [s.pool.unpin_kept b (.inr (by simp [hr])), hp]
  unfold State.unpin
  rw [hq]
  simp [hr]

/-- Settles O60, by the role of the buffer and the pins it keeps. -/
theorem pinReleaseFreesTheBuffer : Obligations.PinReleaseFreesTheBuffer := by
  rintro s b r rfl hpos
  refine ⟨fun h => ?_, fun hp hr => ?_, fun hp hr hs k tag d by_ hk hb => ?_⟩
  · by_cases hpage : (s.pool.bufRec b).pins = 1 ∧ (s.pool.bufRec b).role = .page
    · have hnone : s.store.discardingOf b = none := by
        refine discardingOf_eq_none ?_
        rcases h with h | h | h | ⟨-, h⟩
        · omega
        · simp [hpage.2] at h
        · simp [hpage.2] at h
        · exact h
      rw [unpin_page hpage.1 hpage.2, State.pinsGone, State.store_withPool, hnone, hpage.1]
      rfl
    · have hkept : (s.pool.bufRec b).pins - 1 ≠ 0 ∨ (s.pool.bufRec b).role ≠ .retiring := by
        rcases h with h | h | h | ⟨h, -⟩
        · exact .inl (by omega)
        all_goals exact .inr (by simp [h])
      rw [unpin_eq_withPool, s.pool.unpin_kept b hkept]
      · rfl
      · rw [s.pool.unpin_kept b hkept, Pool.bufRec_setRec_same]
        rintro ⟨h0, hrole⟩
        exact hpage ⟨by simp at h0; omega, hrole⟩
  · have hq := s.pool.unpin_retiring b (by omega) hr
    have hnot : ¬ (((s.pool.unpin b).bufRec b).pins = 0 ∧ ((s.pool.unpin b).bufRec b).role = .page) := by
      rintro ⟨-, hrole⟩
      simp [Pool.role_unpin_iff s.pool b b (r := .page) rfl, hr] at hrole
    rw [unpin_eq_withPool hnot, hq, hp]
    refine ⟨fun hl => ?_, fun hl => ?_⟩
    · rw [Pool.setFree_full _ _ (by simpa using hl)]
      simp [State.withPool]
    · rw [Pool.setFree_short _ _ (by simpa using hl)]
      simp [State.withPool, Pool.joinRing]
  · have hfound := discardingOf_eq_some hs hk hb
    rw [unpin_page hp hr, State.pinsGone, State.store_withPool, hfound]
    have hrec : ((s.pool.setRec b { s.pool.bufRec b with pins := 0 }).bufRec b).pins = 0 := by simp
    refine ⟨fun hl => ?_, fun hl => ?_⟩
    · simp only [State.pool_withPool, release_full hrec (by simpa using hl), Pool.setRec_setRec]
      rfl
    · simp only [State.pool_withPool, release_short hrec (by simpa using hl), Pool.setRec_setRec]
      rfl

/-! ### FREEZE and UNFREEZE -/

/-- Settles O30, by the pool's answer to the take and by the pins of the HELD buffer. -/
theorem freezeHoldsAndUnfreezeReleases : Obligations.FreezeHoldsAndUnfreezeReleases := by
  intro s p k q hold
  refine ⟨fun hq => ?_, fun hq => ?_⟩
  · have hlen : lengthAllowed q = true := by simp [lengthAllowed, hq.2.1, hq.2.2, requestLengths]
    have hexec : ∀ a : Answer, (admitted s).freeze p = a → a.state.tenancy = (admitted s).tenancy →
        exec (.freeze p) s = .next (a.state.reply p k q a.status a.results) := by
      rintro a rfl ht
      exact serveGated_eq hq rfl hlen hold ht
    refine ⟨fun b info hf hb hi => ?_, fun hf hnone => ?_, fun b info hf hb => ⟨fun hl => ?_, fun after ht => ?_⟩⟩
    · have hframe : (admitted s).heldFrame = info.frame := by
        show s.heldFrame = info.frame
        simp [State.heldFrame, hb, Pool.frameOf, hi]
      refine hexec (.ok ((admitted s).withStaged { s.view.staged with author := some p }) (be32 info.frame.toNat)) ?_ rfl
      rw [State.freeze, if_pos (show (admitted s).view.staged.frozen = true from hf), hframe]
      rfl
    · refine hexec (.plain (admitted s) .noPicture) ?_ rfl
      rw [State.freeze, if_neg (show ¬ (admitted s).view.staged.frozen = true by simp [admitted, hf]),
        show (admitted s).pool.takeNewest .held = _ from takeNewest_noFrame .held hnone]
    · refine hexec (.plain (admitted s) .tryAgain) ?_ rfl
      rw [State.freeze, if_neg (show ¬ (admitted s).view.staged.frozen = true by simp [admitted, hf]),
        show (admitted s).pool.takeNewest .held = _ from takeNewest_ringShort .held hb hl]
    · refine hexec (.ok (((admitted s).withPool after).withView { s.view with
          staged := { s.view.staged with frozen := true, author := some p }, held := some b }) (be32 info.frame.toNat)) ?_ rfl
      rw [State.freeze, if_neg (show ¬ (admitted s).view.staged.frozen = true by simp [admitted, hf]),
        show (admitted s).pool.takeNewest .held = _ from takeNewest_taken hb ht rfl]
      rfl
  · have hlen : lengthAllowed q = true := by simp [lengthAllowed, hq.2.1, hq.2.2, requestLengths]
    have hexec : ∀ a : Answer, (admitted s).unfreeze p = a → a.state.tenancy = (admitted s).tenancy →
        exec (.unfreeze p) s = .next (a.state.reply p k q a.status a.results) := by
      rintro a rfl ht
      exact serveGated_eq hq rfl hlen hold ht
    refine ⟨fun hf => ?_, fun b after hf hb hafter => ?_⟩
    · refine hexec (.ok ((admitted s).withStaged { s.view.staged with author := some p }) []) ?_ rfl
      rw [State.unfreeze, if_neg (show ¬ (admitted s).view.staged.frozen = true by simp [admitted, hf])]
      rfl
    · have hrel : s.pool.release b = after := by
        rcases hafter with ⟨hp, rfl⟩ | ⟨hp, hl, rfl⟩ | ⟨hp, hl, rfl⟩
        · exact s.pool.release_pinned b (by omega)
        · exact release_full hp hl
        · exact release_short hp hl
      refine hexec (.ok (((admitted s).withPool after).withView { s.view with
          staged := { s.view.staged with frozen := false, author := some p }, held := none }) []) ?_ rfl
      rw [State.unfreeze, if_pos (show (admitted s).view.staged.frozen = true from hf), State.releaseHeld,
        show (admitted s).view.held = some b from hb, ← hrel]
      rfl

/-! ### Frame start and completion -/

/-- The pool's write buffer is the first of the ring that is unpinned and not the newest complete (R7). -/
theorem writeChoice_eq_some {pool : Pool} {b : BufId}
    (h : FirstWith (fun x => (pool.bufRec x).pins = 0 ∧ ∀ info, ¬ NewestComplete pool x info) pool.ring b) :
    pool.writeChoice = some b := by
  obtain ⟨before, after, hring, hb, hbefore⟩ := h
  have hiff : ∀ x, ((pool.bufRec x).pins = 0 ∧ pool.newest ≠ some x) ↔
      ((pool.bufRec x).pins = 0 ∧ ∀ info, ¬ NewestComplete pool x info) := fun x => by
    rw [Ne, newest_eq_some, not_exists]
  unfold Pool.writeChoice
  rw [List.find?_eq_some_iff_append]
  refine ⟨by simpa only [decide_eq_true_eq, hiff] using hb, before, after, hring, fun x hx => ?_⟩
  simpa only [Bool.not_eq_true', decide_eq_false_iff_not, hiff] using hbefore x hx

theorem writeChoice_eq_none {pool : Pool}
    (h : ∀ x ∈ pool.ring, (pool.bufRec x).pins ≠ 0 ∨ ∃ info, NewestComplete pool x info) : pool.writeChoice = none := by
  unfold Pool.writeChoice
  rw [List.find?_eq_none]
  intro x hx
  have hor := h x hx
  rw [← newest_eq_some] at hor
  simp only [decide_eq_true_eq]
  tauto

/-- The period that a frame start leaves, from the interval it measures (R47). -/
theorem periodAfter_eq {period before : Nat} {interval : Option Word}
    (hin : ∀ w : Word, interval = some w → 20000 ≤ w.toNat ∧ w.toNat ≤ 200000 → period = w.toNat / 16)
    (hout : (interval = none ∨ ∃ w : Word, interval = some w ∧ (w.toNat < 20000 ∨ 200000 < w.toNat)) → period = before) :
    periodAfter before interval = period := by
  cases interval with
  | none => exact (hout (.inl rfl)).symm
  | some w =>
    unfold periodAfter
    dsimp only
    split
    · next hw => exact (hin w rfl hw).symm
    · next hw => exact (hout (.inr ⟨w, rfl, by omega⟩)).symm

theorem profileValues_eq (profile : Profile) (params : Params) : profile.values params = profileValues params profile := by
  cases profile <;> rfl

theorem ended_eq (i : Intake) : i.ended = if i.state = .receiving then malformedIntake i else i := by
  unfold Intake.ended
  split
  · next h => rw [if_pos h]; rfl
  · next h => rw [if_neg (by simp [h])]

/-- Settles O38: the frame in hand ended, the frame timed, and then the pool's choice of a write buffer. -/
theorem frameStartNumbersAndTimesTheFrame : Obligations.FrameStartNumbersAndTimesTheFrame := by
  intro s elapsed now interval period onTime i0 started light hnow hi0 hnone hsome hin hout honTime hlight hstarted
  have hended : s.intake.ended = i0 := by rw [ended_eq, hi0]
  have hkept : i0.lastStart = s.intake.lastStart ∧ i0.startCount = s.intake.startCount ∧ i0.profile = s.intake.profile ∧
      i0.skipped = s.intake.skipped := by
    rw [hi0]
    split <;> exact ⟨rfl, rfl, rfl, rfl⟩
  obtain ⟨hlast, hcount, hprofile, hskipped⟩ := hkept
  have hinterval : i0.interval now = interval := by
    unfold Intake.interval
    rw [hlast]
    cases hl : s.intake.lastStart with
    | none => exact (hnone hl).symm
    | some w => exact (hsome w hl).symm
  have hperiod : periodAfter s.light.period interval = period := periodAfter_eq hin hout
  have hlightEq : s.light.frameStart interval = light := by
    simp only [Light.frameStart, hperiod, hlight, ← honTime, Nat.pos_iff_ne_zero]
  have hstart : i0.started now light s.params = started := by
    simp only [Intake.started, hinterval, hcount, hprofile, profileValues_eq, hstarted, hlight]
  have hexec : exec (.sensorFrameStart elapsed) s =
      .next (((s.withTimer now).withLight light).withIntake started).askWriteBuffer := by
    rw [← hstart, ← hlightEq, ← hinterval, ← hended, hnow]
    rfl
  rw [hexec]
  refine ⟨fun b hb => ?_, fun hb => ?_⟩
  · have hchoice : (((s.withTimer now).withLight light).withIntake started).pool.writeChoice = some b := writeChoice_eq_some hb
    rw [State.askWriteBuffer, hchoice]
    rfl
  · have hchoice : (((s.withTimer now).withLight light).withIntake started).pool.writeChoice = none := writeChoice_eq_none hb
    have hskip : started.skipped = s.intake.skipped := by rw [hstarted]; exact hskipped
    rw [State.askWriteBuffer, hchoice]
    simp only [State.intake_withIntake, Intake.skip, hskip]
    rfl

/-- Settles O42: the completion of a frame that awaits the results of its writes, with and without a stall to lift. -/
theorem completionMarksTheBufferAndReports : Obligations.CompletionMarksTheBufferAndReports := by
  intro s b info report light hr hf hb hinfo hreport hlight
  have hmeta : s.intake.info = info := by
    rw [hinfo]
    simp only [Intake.info, thumbnail, Nat.add_comm 1800]
  have hexec : exec .frameCompletion s = .next (s.complete b) := by
    simp only [exec, execFrameCompletion, Intake.awaiting, hr, hf, and_self, if_true, hb]
  refine ⟨s.complete b, hexec, ?_⟩
  subst hmeta hreport hlight
  unfold State.complete State.liftStall
  dsimp only [State.intake_withPool]
  by_cases hstall : s.intake.stalled = true
  · simp only [hstall, if_true, true_and]
    exact ⟨rfl, rfl⟩
  · simp only [hstall]
    exact ⟨rfl, rfl⟩

end Sys2Proof.Statements

/-! SUPPORT. Page requests: the slot and text arguments, and the answers of PAGE_READ, THUMB_READ, DISCARD and LABEL. -/
namespace Sys2Proof.Statements

open Sys2Proof.Machine

/-! ### Arguments of the page store's requests (R192) -/

theorem slotOf_eq_none {slot : Byte} (h : 20 ≤ slot) : slotOf slot.toNat = none := by
  have hn : 20 ≤ slot.toNat := by simpa [BitVec.le_def] using h
  exact dif_neg (by omega)

theorem slotOf_eq_some {slot : Byte} {j : SlotId} (h : slot.toNat = j.val) : slotOf slot.toNat = some j := by
  unfold slotOf
  rw [dif_pos (by omega)]
  simp only [h, Fin.eta]

/-- The byte that names a slot is the slot's number. -/
theorem byte1_of_slot {slot : Byte} {j : SlotId} (h : slot.toNat = j.val) : byte1 j.val = slot := by
  rw [← h]; exact BitVec.ofNat_toNat 8 slot

/-- A text with an unprintable byte. -/
theorem all_printable_eq_false {text : List Byte} (h : ∃ b ∈ text, b < 0x20 ∨ 0x7E < b) : text.all printable = false := by
  obtain ⟨b, hb, hout⟩ := h
  refine List.all_eq_false.2 ⟨b, hb, ?_⟩
  simp only [BitVec.lt_def, BitVec.reduceToNat] at hout
  simp only [printable, decide_eq_true_eq]
  omega

/-- A text of printable bytes alone. -/
theorem all_printable_eq_true {text : List Byte} (h : ∀ b ∈ text, 0x20 ≤ b ∧ b ≤ 0x7E) : text.all printable = true := by
  refine List.all_eq_true.2 fun b hb => ?_
  have hin := h b hb
  simp only [BitVec.le_def, BitVec.reduceToNat] at hin
  simp only [printable, decide_eq_true_eq]
  omega

/-! ### PAGE_READ and THUMB_READ -/

/-- Settles O51, by the slot byte and the record's state. -/
theorem pageReadsReportTheRecord : Obligations.PageReadsReportTheRecord := by
  intro s p k q
  refine ⟨fun slot hq => ?_, fun slot row hq => ?_⟩
  · obtain ⟨hc, hcode, hargs⟩ := hq
    have hlen : lengthAllowed q = true := by simp [lengthAllowed, hcode, hargs, requestLengths]
    have hexec : ∀ a : Answer, s.pageRead q = a → exec (.pageRead p) s = .next (a.state.reply p k q a.status a.results) := by
      rintro a rfl
      exact serveOpen_eq ⟨hc, hcode, hargs⟩ rfl hlen
    have hslot : argByte q.args 0 = slot.toNat := by rw [hargs]; rfl
    refine ⟨fun h => hexec (.plain s .badArgument) ?_, fun j head data label hj hhead hlabel hdata => ?_⟩
    · rw [State.pageRead, hslot, slotOf_eq_none h]
    · have hread : s.pageRead q = .ok s (s.pageResults j) := by rw [State.pageRead, hslot, slotOf_eq_some hj]
      have hresults : ∀ bs, s.pageResults j = bs → exec (.pageRead p) s = .next (s.reply p k q .ok bs) := by
        rintro bs rfl
        exact hexec _ hread
      have hbytes : ∀ d : PageData, data d = d.bytes ++ [byte1 (s.pool.bufRec d.buffer).pins] := by
        intro d
        rw [hdata, PageData.bytes]
        cases d.lesson <;> simp [be16, be32, byte1]
      refine ⟨fun hp => hresults _ ?_, fun t after hp => hresults _ ?_, fun t d hp => hresults _ ?_, fun t d by_ hp => hresults _ ?_⟩
      · simp only [State.pageResults, hp, byte1_of_slot hj]
        rfl
      · simp only [State.pageResults, hp, byte1_of_slot hj, hhead, hlabel, List.append_assoc]
        rfl
      · simp only [State.pageResults, hp, byte1_of_slot hj, hhead, hlabel, hbytes, List.append_assoc]
        rfl
      · simp only [State.pageResults, hp, byte1_of_slot hj, hhead, hlabel, hbytes, List.append_assoc]
        rfl
  · obtain ⟨hc, hcode, hargs⟩ := hq
    have hlen : lengthAllowed q = true := by simp [lengthAllowed, hcode, hargs, requestLengths]
    have hexec : ∀ a : Answer, s.thumbRead q = a → exec (.thumbRead p) s = .next (a.state.reply p k q a.status a.results) := by
      rintro a rfl
      exact serveOpen_eq ⟨hc, hcode, hargs⟩ rfl hlen
    have hslot : argByte q.args 0 = slot.toNat := by rw [hargs]; rfl
    have hrow : argByte q.args 1 = row.toNat := by rw [hargs]; rfl
    have hcells : ∀ thumb, thumbRow thumb row.toNat = (thumb.drop (64 * row.toNat)).take 64 := fun thumb => by
      rw [thumbRow, Nat.mul_comm]
    have hin : row ≤ 47 → ¬ 47 < row.toNat := fun h => by
      have hn : row.toNat ≤ 47 := by simpa [BitVec.le_def] using h
      omega
    refine ⟨fun h => hexec (.plain s .badArgument) ?_, fun hr hs => ⟨fun hnone => hexec (.plain s .noPicture) ?_, fun b info hb =>
      hexec (.ok s ((info.thumb.drop (64 * row.toNat)).take 64)) ?_⟩, fun hr j hj => ⟨fun t d hp =>
      hexec (.ok s ((d.thumb.drop (64 * row.toNat)).take 64)) ?_, fun hp => hexec (.plain s .noPage) ?_⟩⟩
    · simp only [State.thumbRead, hslot, hrow]
      rcases h with h | ⟨h20, h255⟩
      · rw [if_pos (by simpa [BitVec.lt_def] using h)]
      · have hne : slot.toNat ≠ 255 := by
          have hlt : slot.toNat < 255 := by simpa [BitVec.lt_def] using h255
          omega
        rw [if_neg hne, slotOf_eq_none h20]
        split <;> rfl
    · simp only [State.thumbRead, hslot, hrow, if_neg (hin hr), hs, State.liveThumb, newest_eq_none hnone]
      rfl
    · simp only [State.thumbRead, hslot, hrow, if_neg (hin hr), hs, State.liveThumb, hb.newest, hb.complete, hcells]
      rfl
    · have hne : slot.toNat ≠ 255 := by omega
      simp only [State.thumbRead, hslot, hrow, if_neg (hin hr), if_neg hne, slotOf_eq_some hj, hp, hcells]
    · have hne : slot.toNat ≠ 255 := by omega
      simp only [State.thumbRead, hslot, hrow, if_neg (hin hr), if_neg hne, slotOf_eq_some hj]

/-! ### DISCARD and LABEL -/

/-- No page of that serial stands in the slot, or it is DISCARDING. -/
theorem discard_noPage {s : State} {p : Port} {q : Request} {j : SlotId} (hj : slotOf (argByte q.args 0) = some j)
    (h : s.store.page j = .empty ∨ (s.store.page j).serial? ≠ some (argU16 q.args 1) ∨
      ∃ (tag : PageTag) (d : PageData) (by_ : Port), s.store.page j = .discarding tag d by_) :
    s.discard p q = .plain s .noPage := by
  unfold State.discard
  rw [hj]
  dsimp only
  cases hp : s.store.page j with
  | empty => rfl
  | discarding tag d by_ => rfl
  | reserved tag after => exact if_neg fun he => by simp [hp, PageRec.serial?, he] at h
  | stored tag d => exact if_neg fun he => by simp [hp, PageRec.serial?, he] at h

theorem setLabel_noPage {s : State} {q : Request} {j : SlotId} (ht : (q.args.drop 3).all printable = true)
    (hj : slotOf (argByte q.args 0) = some j)
    (h : s.store.page j = .empty ∨ (s.store.page j).serial? ≠ some (argU16 q.args 1) ∨
      ∃ (tag : PageTag) (d : PageData) (by_ : Port), s.store.page j = .discarding tag d by_) :
    s.setLabel q = .plain s .noPage := by
  unfold State.setLabel
  rw [hj]
  dsimp only
  rw [if_neg (by simp [ht])]
  cases hp : s.store.page j with
  | empty => rfl
  | discarding tag d by_ => rfl
  | reserved tag after => exact if_neg fun he => by simp [hp, PageRec.serial?, he] at h
  | stored tag d => exact if_neg fun he => by simp [hp, PageRec.serial?, he] at h

/-- A view record names the page (R59). -/
theorem named_eq_true {v : View} {r : PageRef} (h : ∃ x ∈ [v.staged, v.active], x.source ≠ .camera ∧ x.page = some r) :
    v.named r = true := by
  obtain ⟨x, hx, hs, hp⟩ := h
  have hn : x.names r = true := by simp [ViewRec.names, hs, hp]
  rcases List.mem_pair.1 hx with rfl | rfl <;> simp [View.named, hn]

/-- No view record names the page (R59). -/
theorem named_eq_false {v : View} {r : PageRef} (h : ∀ x ∈ [v.staged, v.active], x.source = .camera ∨ x.page ≠ some r) :
    v.named r = false := by
  have hn : ∀ x ∈ [v.staged, v.active], x.names r = false := fun x hx => by
    simp only [ViewRec.names, decide_eq_false_iff_not]
    have hor := h x hx
    tauto
  simp [View.named, hn v.staged (by simp), hn v.active (by simp)]

/-- Settles O50, by the slot, the record's state and the pins of its buffer. -/
theorem discardAndLabelChangeTheRecord : Obligations.DiscardAndLabelChangeTheRecord := by
  refine ⟨fun s p k q slot a b serial hq hserial => ?_, fun s p k q slot a b text serial hq htext hserial => ?_⟩
  · obtain ⟨hc, hcode, hargs⟩ := hq
    have hlen : lengthAllowed q = true := by simp [lengthAllowed, hcode, hargs, requestLengths]
    have hexec : ∀ x : Answer, s.discard p q = x → exec (.discard p) s = .next (x.state.reply p k q x.status x.results) := by
      rintro x rfl
      exact serveOpen_eq ⟨hc, hcode, hargs⟩ rfl hlen
    have hslot : argByte q.args 0 = slot.toNat := by rw [hargs]; rfl
    have hnum : argU16 q.args 1 = serial := by rw [hargs, hserial]; rfl
    refine ⟨fun h => hexec (.plain s .noPage) ?_, fun j hj => ?_⟩
    · rw [State.discard, hslot, slotOf_eq_none h]
    have hjs : slotOf (argByte q.args 0) = some j := by rw [hslot, slotOf_eq_some hj]
    refine ⟨fun h => hexec (.plain s .noPage) (discard_noPage hjs (by rwa [hnum])), fun tag after hp ht =>
      hexec (.ok ((s.withStore (s.store.setPage j .empty)).postAll (.captureFailed j serial tag.origin .cancelled) (some p)) [0]) ?_,
      fun tag d offered hp ht hoff => ?_⟩
    · simp only [State.discard, hjs, hp, hnum, ht, if_true]
    have hstored : s.discard p q = s.discardStored p j tag d := by simp only [State.discard, hjs, hp, hnum, ht, if_true]
    refine ⟨fun hv => hexec (.plain s .inView) ?_, fun hv => ?_⟩
    · rw [hstored, State.discardStored, ht, if_pos (named_eq_true hv)]
    have hnamed : ¬ s.view.named { slot := j, serial := tag.serial } = true := by rw [ht, named_eq_false hv]; decide
    have hfree : (s.pool.bufRec d.buffer).pins = 0 → ∀ pool, s.pool.release d.buffer = pool →
        exec (.discard p) s = .next ((((s.withStore ((s.store.setPage j .empty).unlisted j)).withPool pool).withTimeline
          (offered 0)).postAll (.pageDiscarded j serial p) (some p) |>.reply p k q .ok [0]) := by
      rintro hpin pool rfl
      refine hexec (.ok ((((s.withStore ((s.store.setPage j .empty).unlisted j)).withPool (s.pool.release d.buffer)).withTimeline
          (offered 0)).postAll (.pageDiscarded j serial p) (some p)) [0]) ?_
      rw [hstored, State.discardStored, if_neg hnamed, if_neg (by omega), ht, hoff]
      rfl
    refine ⟨fun hpin => ?_, fun hpin hl => hfree hpin _ (release_full hpin hl), fun hpin hl => hfree hpin _ (release_short hpin hl)⟩
    refine hexec (.ok ((s.withStore ((s.store.setPage j (.discarding tag d p)).unlisted j)).withTimeline (offered 1)) [3]) ?_
    rw [hstored, State.discardStored, if_neg hnamed, if_pos hpin, ht, hoff]
    rfl
  · obtain ⟨hc, hcode, hargs⟩ := hq
    have hlen : lengthAllowed q = true := by
      simp [lengthAllowed, hcode, hargs, requestLengths]
      omega
    have hexec : ∀ x : Answer, s.setLabel q = x → exec (.label p) s = .next (x.state.reply p k q x.status x.results) := by
      rintro x rfl
      exact serveOpen_eq ⟨hc, hcode, hargs⟩ rfl hlen
    have hslot : argByte q.args 0 = slot.toNat := by rw [hargs]; rfl
    have hnum : argU16 q.args 1 = serial := by rw [hargs, hserial]; rfl
    have hdrop : q.args.drop 3 = text := by rw [hargs]; rfl
    refine ⟨fun h => hexec (.plain s .badArgument) ?_, fun h => ?_⟩
    · simp only [State.setLabel, hdrop, all_printable_eq_false h, if_true]
    have htrue := all_printable_eq_true h
    refine ⟨fun h20 => hexec (.plain s .noPage) ?_, fun j hj => ?_⟩
    · simp only [State.setLabel, hdrop, htrue, hslot, slotOf_eq_none h20]
      rfl
    have hjs : slotOf (argByte q.args 0) = some j := by rw [hslot, slotOf_eq_some hj]
    refine ⟨fun hno => hexec (.plain s .noPage) (setLabel_noPage (by rwa [hdrop]) hjs (by rwa [hnum])), fun tag record ht hrec =>
      hexec (.ok (s.withStore (s.store.setPage j record)) [byte1 (min 24 text.length)]) ?_⟩
    rcases hrec with ⟨after, hp, rfl⟩ | ⟨d, hp, rfl⟩ <;>
      · simp only [State.setLabel, hdrop, htrue, hjs, hp, hnum, ht, if_true, labelKept, List.length_take]
        rfl

end Sys2Proof.Statements

/-! SUPPORT. Line facts: what the clarity filter writes for a line, sample by sample, and what a line write leaves in the frame
memory (R1, R21, R30, R31). -/
namespace Sys2Proof.Statements

open Sys2Proof.Machine

/-! ### The samples of a line and their neighbours -/

@[simp] theorem length_lineLuma (line : List Pair) : (lineLuma line).length = 2 * line.length := by
  induction line with
  | nil => rfl
  | cons p rest ih => simp only [lineLuma, List.length_cons, ih]; omega

theorem lumaAt_cons (p : Pair) (rest : List Pair) (x : Nat) : lumaAt (p :: rest) (x + 2) = lumaAt rest x := by
  have hhalf : (x + 2) / 2 = x / 2 + 1 := by omega
  have hpar : (x + 2) % 2 = x % 2 := by omega
  simp only [lumaAt, hhalf, hpar, List.getD_cons_succ]

theorem getElem?_lineLuma (line : List Pair) (x : Nat) (h : x < 2 * line.length) :
    (lineLuma line)[x]? = some (lumaAt line x) := by
  induction line generalizing x with
  | nil => simp at h
  | cons p rest ih =>
    match x, h with
    | 0, _ => rfl
    | 1, _ => rfl
    | x + 2, h =>
      rw [lumaAt_cons, ← ih x (by simp only [List.length_cons] at h; omega)]
      rfl

/-- Each sample of a line with its neighbours, the last sample standing in for the one beyond it (R30). -/
theorem getElem?_triplesFrom (before : Nat) (line : List Nat) (x : Nat) (h : x < line.length) :
    (triplesFrom before line)[x]? =
      some ⟨(before :: line).getD x 0, line.getD x 0, line.getD (min (x + 1) (line.length - 1)) 0⟩ := by
  fun_induction triplesFrom before line generalizing x with
  | case1 => simp at h
  | case2 before a =>
    obtain rfl : x = 0 := by simpa using h
    rfl
  | case3 before a b rest ih =>
    cases x with
    | zero => simp
    | succ x =>
      have hmin : min (x + 1 + 1) ((a :: b :: rest).length - 1) = min (x + 1) ((b :: rest).length - 1) + 1 := by
        simp only [List.length_cons] at h ⊢; omega
      rw [List.getElem?_cons_succ, ih x (by simpa using h), hmin]
      simp only [List.getD_cons_succ]

@[simp] theorem length_triplesFrom (before : Nat) (line : List Nat) : (triplesFrom before line).length = line.length := by
  fun_induction triplesFrom before line with
  | case1 => rfl
  | case2 => rfl
  | case3 before a b rest ih => simpa using ih

@[simp] theorem length_triples (line : List Nat) : (triples line).length = line.length := by
  cases line with
  | nil => rfl
  | cons a rest => exact length_triplesFrom a (a :: rest)

/-- The first sample is its own left neighbour (R30). -/
theorem getElem?_triples (line : List Nat) (x : Nat) (h : x < line.length) :
    (triples line)[x]? = some ⟨line.getD (x - 1) 0, line.getD x 0, line.getD (min (x + 1) (line.length - 1)) 0⟩ := by
  cases line with
  | nil => simp at h
  | cons a rest =>
    rw [triples, getElem?_triplesFrom _ _ _ h]
    cases x with
    | zero => rfl
    | succ x => simp

/-- Sample `x` of a whole line with its neighbours. -/
def tripleAt (line : List Pair) (x : Nat) : Triple := ⟨lumaAt line (x - 1), lumaAt line x, lumaAt line (min (x + 1) 3839)⟩

theorem getElem?_triples_line (line : List Pair) (hl : line.length = 1920) (x : Nat) (h : x < 3840) :
    (triples (lineLuma line))[x]? = some (tripleAt line x) := by
  have hlen : (lineLuma line).length = 3840 := by rw [length_lineLuma, hl]
  have hget : ∀ i, i < 3840 → (lineLuma line).getD i 0 = lumaAt line i := fun i hi => by
    rw [List.getD_eq_getElem?_getD, getElem?_lineLuma line i (by omega)]
    rfl
  rw [getElem?_triples _ _ (by omega), hget _ (by omega), hget _ h, hget _ (by omega), hlen]
  rfl

/-! ### The sharpened line -/

theorem clampInt_eq (lo hi : Nat) (x : Int) (h : lo ≤ hi) : (clampInt lo hi x : Int) = max (lo : Int) (min (hi : Int) x) := by
  unfold clampInt
  split
  · omega
  · split <;> omega

/-- The sharpened sample of the model is the one of the statement (R30, R31). -/
theorem toNat_sharpen (gain core : Nat) (above own below : List Pair) (x : Nat) :
    ((sharpen gain core (tripleAt own x).centre (blur (tripleAt above x) (tripleAt own x) (tripleAt below x))).toNat : Int) =
      sharpenedAt gain core above own below x := by
  have hblur : blur (tripleAt above x) (tripleAt own x) (tripleAt below x) =
      (aroundAt above x + 2 * aroundAt own x + aroundAt below x + 8) / 16 := by
    simp only [blur, tripleAt, aroundAt]
    congr 1
    omega
  have hclamp : ∀ v : Int, ((byte1 (clampInt 0 255 v)).toNat : Int) = max 0 (min 255 v) := fun v => by
    have hv := clampInt_eq 0 255 v (by omega)
    have hsmall : clampInt 0 255 v % 2 ^ 8 = clampInt 0 255 v := Nat.mod_eq_of_lt (by omega)
    rw [byte1, BitVec.toNat_ofNat, hsmall, hv]
    rfl
  unfold sharpen
  rw [hclamp, hblur]
  rfl

@[simp] theorem length_sharpenedLuma (gain core : Nat) (above own below : List Pair) (ha : above.length = 1920)
    (ho : own.length = 1920) (hb : below.length = 1920) : (sharpenedLuma gain core above own below).length = 3840 := by
  simp [sharpenedLuma, ha, ho, hb]

theorem getElem?_sharpenedLuma (gain core : Nat) (above own below : List Pair) (ha : above.length = 1920)
    (ho : own.length = 1920) (hb : below.length = 1920) (x : Nat) (h : x < 3840) :
    (sharpenedLuma gain core above own below)[x]? =
      some (sharpen gain core (tripleAt own x).centre (blur (tripleAt above x) (tripleAt own x) (tripleAt below x))) := by
  simp only [sharpenedLuma, List.getElem?_zipWith, List.zip, getElem?_triples_line _ ha x h,
    getElem?_triples_line _ ho x h, getElem?_triples_line _ hb x h]

/-- A line's bytes are four for each pair (R1). -/
theorem length_lineBytes (luma : List Byte) (line : List Pair) (h : luma.length = 2 * line.length) :
    (lineBytes luma line).length = 4 * line.length := by
  fun_induction lineBytes luma line with
  | case1 a b luma p rest ih =>
    simp only [List.length_cons] at h ⊢
    rw [ih (by omega)]
    omega
  | case2 luma line hshort =>
    cases line with
    | nil => rfl
    | cons p rest =>
      match luma, h with
      | a :: b :: luma, _ => exact absurd rfl (hshort a b luma p rest rfl)

/-- The luma samples stand at the even bytes (R1). -/
theorem getElem?_lineBytes_luma (luma : List Byte) (line : List Pair) (x : Nat) (hx : x < 2 * line.length)
    (h : luma.length = 2 * line.length) : (lineBytes luma line)[2 * x]? = luma[x]? := by
  fun_induction lineBytes luma line generalizing x with
  | case1 a b luma p rest ih =>
    simp only [List.length_cons] at h hx
    match x, hx with
    | 0, _ => rfl
    | 1, _ => rfl
    | x + 2, hx => simpa [Nat.mul_add] using ih x (by omega) (by omega)
  | case2 luma line hshort =>
    cases line with
    | nil => simp at hx
    | cons p rest =>
      match luma, h with
      | a :: b :: luma, _ => exact absurd rfl (hshort a b luma p rest rfl)

/-- The chroma samples of a pair stand at its odd bytes (R1). -/
theorem getElem?_lineBytes_chroma (luma : List Byte) (own : List Pair) (k : Nat) (p : Pair) (hp : own[k]? = some p)
    (h : luma.length = 2 * own.length) :
    (lineBytes luma own)[4 * k + 1]? = some p.cb ∧ (lineBytes luma own)[4 * k + 3]? = some p.cr := by
  fun_induction lineBytes luma own generalizing k with
  | case1 a b luma q rest ih =>
    simp only [List.length_cons] at h
    cases k with
    | zero =>
      obtain rfl : q = p := by simpa using hp
      exact ⟨rfl, rfl⟩
    | succ k => simpa [Nat.mul_add] using ih k (by simpa using hp) (by omega)
  | case2 luma own hshort =>
    cases own with
    | nil => simp at hp
    | cons q rest =>
      match luma, h with
      | a :: b :: luma, _ => exact absurd rfl (hshort a b luma q rest rfl)

/-! ### The line in the frame memory -/

theorem length_sharpenedLine (gain core : Nat) (above own below : List Pair) (ha : above.length = 1920)
    (ho : own.length = 1920) (hb : below.length = 1920) : (sharpenedLine gain core above own below).length = 7680 := by
  rw [sharpenedLine, length_lineBytes _ _ (by rw [length_sharpenedLuma gain core above own below ha ho hb, ho]), ho]

/-- A sharpened line written to a buffer (R1, R21). -/
theorem lineWritten_writeList {m : List Host.Cell} (w : Memory.wf m = true) (b : BufId) (y gain core : Nat) (hy : y < 2880)
    (above own below : List Pair) (ha : above.length = 1920) (ho : own.length = 1920) (hb : below.length = 1920) :
    LineWritten m (Memory.writeList m (Memory.address b y 0) (sharpenedLine gain core above own below)) b y gain core above own
      below := by
  have hluma := length_sharpenedLuma gain core above own below ha ho hb
  have hlen : (sharpenedLine gain core above own below).length = 7680 :=
    length_sharpenedLine gain core above own below ha ho hb
  have htop : 22118400 * b.val + 7680 * y + 7680 ≤ 536870912 := by have := b.isLt; omega
  have haddr : Memory.address b y 0 = 22118400 * b.val + 7680 * y := rfl
  have hin : ∀ i v, (sharpenedLine gain core above own below)[i]? = some v →
      Memory.read (Memory.writeList m (Memory.address b y 0) (sharpenedLine gain core above own below))
        (22118400 * b.val + 7680 * y + i) = v := by
    intro i v hv
    obtain ⟨hi, rfl⟩ := List.getElem?_eq_some_iff.1 hv
    exact Memory.read_writeList_inside _ m _ i (by rw [haddr, hlen]; exact htop) hi w
  refine ⟨fun x hx => ?_, fun k p hp => ?_, fun a hout => ?_⟩
  · rw [hin (2 * x) _ ((getElem?_lineBytes_luma _ _ x (by omega) (by omega)).trans
      (getElem?_sharpenedLuma gain core above own below ha ho hb x hx)), toNat_sharpen]
  · obtain ⟨hcb, hcr⟩ := getElem?_lineBytes_chroma (sharpenedLuma gain core above own below) own k p hp (by omega)
    exact ⟨hin _ _ hcb, hin _ _ hcr⟩
  · exact Memory.read_writeList_outside _ m _ a (by rw [haddr, hlen]; exact htop) (by rw [haddr, hlen]; exact hout) w

/-- A line of the frame written to the write buffer does not fault (R1). -/
theorem writeLine_eq {s : State} {b : BufId} {y : Nat} {bytes : List Byte} (after : Intake) (hb : s.intake.writeBuffer = some b)
    (hy : y < 2880) (hlen : bytes.length ≤ 7680) :
    s.writeLine y bytes after =
      .next ((s.withMem (Memory.writeList s.mem (Memory.address b y 0) bytes)).withIntake after) := by
  simp only [State.writeLine, hb, lineMissing_line b y _ hy hlen]

/-- Settles O40: the line that is written is the sharpened one, and a line write changes its own bytes alone. -/
theorem lineEndAndFrameEndWriteTheSharpenedLine : Obligations.LineEndAndFrameEndWriteTheSharpenedLine := by
  refine ⟨fun s b y above own below hm hr hopen hpix hcount hy hb ha ho hbelow hla hlo hlb => ?_,
    fun s b above own hm hr hopen hcount hend hb ha ho hla hlo => ?_⟩
  · have hprev : s.intake.previousLine = sharpenedLine s.intake.gain s.intake.core above own below := by
      simp only [Intake.previousLine, ha, ho, hbelow, List.reverse_reverse]
    have hclosed : s.intake.lineClosed = { s.intake with
        lineOpen := false, lineCount := y + 2, above := own, held := below, incoming := [] } := by
      simp only [Intake.lineClosed, hcount, Nat.add_one_ne_zero, if_false, ho, hbelow, List.reverse_reverse]
    have hexec : exec .sensorLineEnd s = s.writeLine y s.intake.previousLine s.intake.lineClosed := by
      simp [exec, execSensorLineEnd, hr, Intake.lineWhole, hopen, hpix, hcount]
    refine ⟨_, ?_, lineWritten_writeList hm b y _ _ (by omega) above own below hla hlo hlb⟩
    rw [hexec, hprev, hclosed, writeLine_eq _ hb (by omega) (length_sharpenedLine _ _ _ _ _ hla hlo hlb).le]
    rfl
  · have hlast : s.intake.lastLine = sharpenedLine s.intake.gain s.intake.core above own own := by
      simp only [Intake.lastLine, ha, ho]
    have hexec : exec .sensorFrameEnd s = s.writeLine 2879 s.intake.lastLine { s.intake with frameEnd := true } := by
      simp [exec, execSensorFrameEnd, hr, Intake.frameWhole, hopen, hcount, hend]
    refine ⟨_, ?_, lineWritten_writeList hm b 2879 _ _ (by omega) above own own hla hlo hlo⟩
    rw [hexec, hlast, writeLine_eq _ hb (by omega) (length_sharpenedLine _ _ _ _ _ hla hlo hlo).le]
    rfl

end Sys2Proof.Statements

/-! SUPPORT. Captures: the serial drawn next, the record a page is stored in, and the cases of an automatic capture and of a
reservation that a report meets, in the words of the statements. -/
namespace Sys2Proof.Statements

open Sys2Proof.Machine

/-! ### Serials and records (R122, R124) -/

theorem mem_serials {st : Store} {n : Nat} : n ∈ st.serials ↔ ∃ k : SlotId, (st.page k).serial? = some n := by
  simp [Store.serials]

/-- The serial `steps` places after the one that follows the last serial, with 1 after 65535 (R122). -/
def serialAt (st : Store) (steps : Nat) : Nat := (st.lastSerial + steps) % 65535 + 1

theorem serialAfter_serialAt (st : Store) (i : Nat) : serialAfter (serialAt st i) = serialAt st (i + 1) := by
  simp only [serialAfter, serialAt]
  omega

/-- Twenty records hold at most twenty serials, so the search for a free one ends within its fuel (R122). -/
theorem serials_held_le {st : Store} {steps : Nat} (h : ∀ i < steps, ∃ k : SlotId, (st.page k).serial? = some (serialAt st i)) :
    steps ≤ 20 := by
  by_contra hlong
  choose slot hslot using fun i : Fin 21 => h i.val (by omega)
  have hinj : Function.Injective slot := fun i j hij => by
    have hserial : serialAt st i.val = serialAt st j.val := Option.some.inj ((hslot i).symm.trans (hij ▸ hslot j))
    simp only [serialAt] at hserial
    exact Fin.ext (by omega)
  simpa using Fintype.card_le_of_injective slot hinj

/-- The search draws the first serial that no record holds. -/
theorem freeSerial_eq {st : Store} {n : Nat} (hn : ∀ k : SlotId, (st.page k).serial? ≠ some n) (left fuel i : Nat) (hfuel : left ≤ fuel)
    (hat : serialAt st (i + left) = n)
    (h : ∀ j, i ≤ j → j < i + left → ∃ k : SlotId, (st.page k).serial? = some (serialAt st j)) :
    st.freeSerial fuel (serialAt st i) = n := by
  induction left generalizing fuel i with
  | zero =>
    cases fuel with
    | zero => exact hat
    | succ fuel =>
      have hnot : serialAt st i ∉ st.serials := by
        rw [mem_serials, show serialAt st i = n from hat]
        rintro ⟨k, hk⟩
        exact hn k hk
      rw [Store.freeSerial, if_neg hnot]
      exact hat
  | succ left ih =>
    cases fuel with
    | zero => omega
    | succ fuel =>
      rw [Store.freeSerial, if_pos (mem_serials.2 (h i (by omega) (by omega))), serialAfter_serialAt]
      exact ih fuel (i + 1) (by omega) (by rw [← hat]; congr 1; omega) fun j hj hlt => h j (by omega) (by omega)

theorem SerialDrawn.nextSerial {st : Store} {n : Nat} (h : SerialDrawn st n) : st.nextSerial = n := by
  obtain ⟨steps, hn, hfree, hheld⟩ := h
  have hfuel : steps ≤ 20 := serials_held_le hheld
  exact freeSerial_eq hfree steps 20 0 hfuel (by rw [Nat.zero_add]; exact hn.symm) fun j _ hj => hheld j (by omega)

theorem LowestEmpty.eq {st : Store} {k : SlotId} (h : LowestEmpty st k) : st.lowestEmpty = some k := by
  obtain ⟨hk, hlow⟩ := h
  unfold Store.lowestEmpty
  rw [List.find?_eq_some_iff_getElem]
  refine ⟨by simpa using hk, k.val, by simp, by simp, fun j hj => ?_⟩
  simpa using hlow ⟨j, by omega⟩ hj

theorem lowestEmpty_eq_none {st : Store} (h : ∀ j : SlotId, st.page j ≠ .empty) : st.lowestEmpty = none := by
  simpa [Store.lowestEmpty] using h

theorem exists_lowestEmpty {st : Store} {j : SlotId} (h : st.page j = .empty) : ∃ k, st.lowestEmpty = some k :=
  Option.isSome_iff_exists.1 (by simpa [Store.lowestEmpty] using ⟨j, h⟩)

/-! ### A page stored and a capture skipped (R125, R126, R133) -/

theorem lessonTag_eq (l : Lesson) :
    l.tag = if l.state = .running ∨ l.state = .paused then some { number := l.number, time := l.time } else none := by
  unfold Lesson.tag
  cases l.state <;> rfl

theorem storing_state (s : State) (k : SlotId) (tag : PageTag) (b : BufId) (info : FrameMeta) (left : Option Port) :
    (s.storing k tag b info left).state = pageRecordedIn s k tag b info left := by
  simp only [State.storing, pageRecordedIn, State.pageData, lessonTag_eq]
  rfl

theorem storing_entry (s : State) (k : SlotId) (tag : PageTag) (b : BufId) (info : FrameMeta) (left : Option Port) :
    (s.storing k tag b info left).entry = capturedEntry s k tag := by
  simp only [State.storing, capturedEntry, capturedOffer]
  cases tag.origin <;> rfl

theorem storePage_eq (s : State) (k : SlotId) (tag : PageTag) (b : BufId) (info : FrameMeta) (left : Option Port) :
    s.storePage k tag b info left = pageStoredIn s k tag b info left := by
  rw [State.storePage, Doing.entered_none, storing_state, storing_entry]
  rfl

theorem skipping_entered (s : State) (trigger : Trigger) (cause : SkipCause) (frame : Word) :
    (s.skipping trigger cause frame).entered none = captureSkippedIn s trigger cause frame := rfl

theorem storingAuto_entered (s : State) (k : SlotId) (trigger : Trigger) (b : BufId) (info : FrameMeta) (pool : Pool) {serial : Nat}
    (h : SerialDrawn s.store serial) :
    (s.storingAuto k trigger b info pool).entered none =
      pageStoredIn { s with pool := pool, store := { s.store with lastSerial := serial } } k
        { serial := serial, origin := .auto, trigger := trigger, label := [] } b info none := by
  rw [← storePage_eq, State.storingAuto, h.nextSerial]
  rfl

/-! ### The duplicate check (R132) -/

theorem duplicate_iff (s : State) (thumb : List Byte) :
    s.store.duplicate thumb s.params.duplicateLimit = true ↔ AlikeToNewest s thumb := by
  unfold Store.duplicate Store.newestThumb AlikeToNewest
  cases hlast : s.store.list.getLast? with
  | none => simp
  | some k =>
    cases hk : s.store.page k with
    | empty => simp [hk]
    | reserved tag after => simp [hk]
    | discarding tag => simp [hk]
    | stored tag data =>
      simp only [Option.some.injEq, exists_and_left, exists_eq_left', hk, PageRec.stored.injEq]
      refine decide_eq_true_iff.trans ⟨fun hlike => ⟨tag, data, ⟨rfl, rfl⟩, hlike⟩, ?_⟩
      rintro ⟨_, _, ⟨-, rfl⟩, hlike⟩
      exact hlike

/-- A thumbnail does not differ from itself. -/
theorem thumbDifference_self (thumb : List Byte) :
    (List.zipWith (fun a b : Byte => ((a.toNat : Int) - (b.toNat : Int)).natAbs) thumb thumb).sum = 0 := by
  simp

/-! ### A page-turn capture, its cases in order (R131) -/

theorem pageTurn_duplicate {s : State} {r : Report} (h : AlikeToNewest s r.thumb) :
    s.pageTurn r = captureSkippedIn s .pageTurn .duplicate r.frame := by
  rw [State.pageTurn, State.capturingTurn, if_pos ((duplicate_iff s r.thumb).2 h), skipping_entered]

theorem pageTurn_storeFull {s : State} {r : Report} (h : ¬ AlikeToNewest s r.thumb) (hfull : ∀ j : SlotId, s.store.page j ≠ .empty) :
    s.pageTurn r = captureSkippedIn s .pageTurn .storeFull r.frame := by
  rw [State.pageTurn, State.capturingTurn, if_neg (mt (duplicate_iff s r.thumb).1 h), lowestEmpty_eq_none hfull]
  rfl

theorem pageTurn_gone {s : State} {r : Report} (h : ¬ AlikeToNewest s r.thumb) {j : SlotId} (hj : s.store.page j = .empty)
    (hgone : (s.pool.bufRec r.buffer).role ≠ .ring ∨
      ∀ info, (s.pool.bufRec r.buffer).complete = some info → info.frame ≠ r.frame) :
    s.pageTurn r = captureSkippedIn s .pageTurn .gone r.frame := by
  obtain ⟨k, hk⟩ := exists_lowestEmpty hj
  rw [State.pageTurn, State.capturingTurn, if_neg (mt (duplicate_iff s r.thumb).1 h), hk, takeReported_gone .page hgone]
  rfl

theorem pageTurn_busy {s : State} {r : Report} (h : ¬ AlikeToNewest s r.thumb) {j : SlotId} (hj : s.store.page j = .empty)
    {info : FrameMeta} (hr : (s.pool.bufRec r.buffer).role = .ring) (hi : (s.pool.bufRec r.buffer).complete = some info)
    (hf : info.frame = r.frame) (hl : s.pool.ring.length ≤ 2) :
    s.pageTurn r = captureSkippedIn s .pageTurn .busy r.frame := by
  obtain ⟨k, hk⟩ := exists_lowestEmpty hj
  rw [State.pageTurn, State.capturingTurn, if_neg (mt (duplicate_iff s r.thumb).1 h), hk, takeReported_ringShort .page hr hi hf hl]
  rfl

theorem pageTurn_stored {s : State} {r : Report} (h : ¬ AlikeToNewest s r.thumb) {j : SlotId} {serial : Nat}
    (hj : LowestEmpty s.store j) (hserial : SerialDrawn s.store serial) {info : FrameMeta} {pool : Pool}
    (hr : (s.pool.bufRec r.buffer).role = .ring) (hi : (s.pool.bufRec r.buffer).complete = some info) (hf : info.frame = r.frame)
    (ht : Taken s.pool r.buffer .page pool) :
    s.pageTurn r = pageStoredIn { s with pool := pool, store := { s.store with lastSerial := serial } } j
      { serial := serial, origin := .auto, trigger := .pageTurn, label := [] } r.buffer info none := by
  rw [State.pageTurn, State.capturingTurn, if_neg (mt (duplicate_iff s r.thumb).1 h), hj.eq, takeReported_taken hr hi hf ht rfl]
  exact storingAuto_entered s j .pageTurn r.buffer info pool hserial

/-! ### Reservations that a report meets (R128) -/

/-- The frame follows the after-frame where the difference is in range (R128). -/
theorem follows_iff (frame after : Word) :
    follows frame after = true ↔ 1 ≤ (frame - after).toNat ∧ (frame - after).toNat ≤ 2147483647 := by
  simp [follows]

/-- A record that is no reservation the report fills is left. -/
theorem fill_leaves {s : State} {r : Report} {k : SlotId}
    (h : ∀ (g : PageTag) (a : Word), s.store.page k = .reserved g a → LeavesReserved s r a) : s.fill r k = s := by
  unfold State.fill
  split
  · next tag after hk =>
    split
    · next hfol =>
      rw [follows_iff] at hfol
      split
      · next b info pool hgiven =>
        exfalso
        obtain ⟨⟨-, -, hlong⟩, -, -⟩ := Pool.takeReported_given hgiven
        have hgone : (s.pool.bufRec r.buffer).role ≠ .ring ∨
            ∀ info, (s.pool.bufRec r.buffer).complete = some info → info.frame ≠ r.frame := by
          rcases h tag after hk with h0 | hbig | hshort | hrole | hframe
          · omega
          · omega
          · omega
          · exact .inl hrole
          · exact .inr hframe
        rw [takeReported_gone .page hgone] at hgiven
        cases hgiven
      · rfl
    · rfl
  · rfl

theorem foldl_fixed {α β : Type} (f : α → β → α) (l : List β) (a : α) (h : ∀ b ∈ l, f a b = a) : l.foldl f a = a := by
  induction l with
  | nil => rfl
  | cons b l ih => rw [List.foldl_cons, h b (by simp), ih fun c hc => h c (by simp [hc])]

theorem fillAll_leaves {s : State} {r : Report}
    (h : ∀ (j : SlotId) (g : PageTag) (a : Word), s.store.page j = .reserved g a → LeavesReserved s r a) : s.fillAll r = s :=
  foldl_fixed _ _ _ fun j _ => fill_leaves (h j)

/-- A reservation the report follows, whose take is given, is stored (R125, R128). -/
theorem fill_stored {s : State} {r : Report} {k : SlotId} {tag : PageTag} {after : Word} {info : FrameMeta} {pool : Pool}
    (hk : s.store.page k = .reserved tag after) (hfol : follows r.frame after = true)
    (hr : (s.pool.bufRec r.buffer).role = .ring) (hi : (s.pool.bufRec r.buffer).complete = some info) (hf : info.frame = r.frame)
    (ht : Taken s.pool r.buffer .page pool) :
    s.fill r k = pageStoredIn { s with pool := pool } k tag r.buffer info none := by
  rw [← storePage_eq]
  simp only [State.fill, hk, hfol, if_true, takeReported_taken hr hi hf ht rfl]
  rfl

/-- A buffer that has been taken as a page is no RING buffer any more. -/
theorem Taken.role_page {pool after : Pool} {b : BufId} (h : Taken pool b .page after) : (after.bufRec b).role = .page := by
  rw [← h.give_eq rfl, pool.bufRec_give_same b (by decide)]

/-- The slots in order, split at one of them. -/
theorem finRange_split (k : SlotId) :
    ∃ before after, List.finRange 20 = before ++ k :: after ∧ ∀ j ∈ before, j < k := by
  obtain ⟨before, after, h⟩ := List.append_of_mem (List.mem_finRange k)
  have hsorted : (before ++ k :: after).Pairwise (· < ·) := h ▸ List.pairwise_lt_finRange 20
  exact ⟨before, after, h, fun j hj => (List.pairwise_append.1 hsorted).2.2 j hj k (by simp)⟩

/-- The lowest reservation the report follows takes its frame, and the buffer is gone for every other one (R128). -/
theorem fillAll_stored {s : State} {r : Report} {k : SlotId} {tag : PageTag} {after : Word} {info : FrameMeta} {pool : Pool}
    (hk : s.store.page k = .reserved tag after) (hfol : follows r.frame after = true)
    (hlow : ∀ j : SlotId, j < k → ∀ g a, s.store.page j = .reserved g a →
      (r.frame - a).toNat = 0 ∨ 2147483647 < (r.frame - a).toNat)
    (hr : (s.pool.bufRec r.buffer).role = .ring) (hi : (s.pool.bufRec r.buffer).complete = some info) (hf : info.frame = r.frame)
    (ht : Taken s.pool r.buffer .page pool) :
    s.fillAll r = pageStoredIn { s with pool := pool } k tag r.buffer info none := by
  obtain ⟨before, rest, hsplit, hbefore⟩ := finRange_split k
  have hskip : before.foldl (fun t j => t.fill r j) s = s :=
    foldl_fixed _ _ _ fun j hj => fill_leaves fun g a hp => (hlow j (hbefore j hj) g a hp).imp_right .inl
  unfold State.fillAll
  rw [hsplit, List.foldl_append, hskip, List.foldl_cons, fill_stored hk hfol hr hi hf ht]
  refine foldl_fixed _ _ _ fun j _ => fill_leaves fun g a _ => .inr (.inr (.inr (.inl ?_)))
  show (pool.bufRec r.buffer).role ≠ .ring
  rw [ht.role_page]
  decide

/-! ### The report at the page store -/

theorem exec_storeReport {s : State} {r : Report} {fire : Bool} {rest : List StoreReport}
    (h : s.store.reports = { report := r, fire := fire } :: rest) :
    exec .pageStoreFrameReport s = .next ((reportTaken s rest).storeReport { report := r, fire := fire }) := by
  simp only [exec, execPageStoreFrameReport, State.storeNextReport, h]
  rfl

/-- Without the mark, the parameter or a running lesson the report ends at the reservations (R131). -/
theorem storeReport_ends {s : State} {r : Report} {fire : Bool}
    (h : fire = false ∨ s.params.pageTurnCapture = false ∨ s.lesson.state ≠ .running) :
    s.storeReport { report := r, fire := fire } = s.fillAll r := by
  have hnot : (s.fillAll r).pageTurnDue fire = false := by
    simp only [State.pageTurnDue, State.fillAll_frame]
    rcases h with h | h | h <;> simp [h]
  simp [State.storeReport, hnot]

/-- A fired report in a running lesson with page-turn capture on is then a page-turn capture (R131). -/
theorem storeReport_turns {s : State} {r : Report} (hp : s.params.pageTurnCapture = true) (hl : s.lesson.state = .running) :
    s.storeReport { report := r, fire := true } = (s.fillAll r).pageTurn r := by
  have hdue : (s.fillAll r).pageTurnDue true = true := by simp [State.pageTurnDue, hp, hl]
  simp [State.storeReport, hdue]

/-- Settles O48: what the reservations come to, and then the page-turn capture on the state they leave. -/
theorem frameReportFillsOrCaptures : Obligations.FrameReportFillsOrCaptures := by
  refine ⟨fun s r fire rest k tag after hreports hoff hk hlow => ?_, fun s r fire rest hreports hleave => ?_,
    fun s filled r rest k tag after info pool hreports hparam hrun hk hge hle hlow hr hi hf ht hfilled => ?_⟩
  · have hexec : exec .pageStoreFrameReport s = .next ((reportTaken s rest).fillAll r) := by
      rw [exec_storeReport hreports, storeReport_ends (s := reportTaken s rest) hoff]
    refine ⟨fun hout hnone => ?_, fun hge hle => ⟨fun info pool hr hi hf ht => ?_, fun hno => ?_⟩⟩
    · rw [hexec, fillAll_leaves (s := reportTaken s rest) fun j g a hp => ?_]
      rcases lt_trichotomy j k with hj | rfl | hj
      · exact (hlow j hj g a hp).imp_right .inl
      · obtain rfl : after = a := by
          have hsame := hk.symm.trans hp
          simp only [PageRec.reserved.injEq] at hsame
          exact hsame.2
        exact hout.imp_right .inl
      · exact absurd hp (hnone j hj g a)
    · rw [hexec, fillAll_stored (s := reportTaken s rest) hk ((follows_iff _ _).2 ⟨hge, hle⟩) hlow hr hi hf ht]
    · rw [hexec, fillAll_leaves (s := reportTaken s rest) fun j g a _ => .inr (.inr hno)]
  · have hfill : (reportTaken s rest).fillAll r = reportTaken s rest := fillAll_leaves hleave
    refine ⟨fun hoff => ?_, fun hfire hparam hrun => ?_⟩
    · rw [exec_storeReport hreports, storeReport_ends (s := reportTaken s rest) hoff, hfill]
    subst hfire
    have hexec : exec .pageStoreFrameReport s = .next ((reportTaken s rest).pageTurn r) := by
      rw [exec_storeReport hreports, storeReport_turns (s := reportTaken s rest) hparam hrun, hfill]
    refine ⟨fun h => ?_, fun h => ⟨fun hfull => ?_, fun j serial hj hserial => ⟨fun hgone => ?_, fun info hr hi hf =>
      ⟨fun hl => ?_, fun pool ht => ?_⟩⟩⟩⟩
    · rw [hexec, pageTurn_duplicate (s := reportTaken s rest) h]
    · rw [hexec, pageTurn_storeFull (s := reportTaken s rest) h hfull]
    · rw [hexec, pageTurn_gone (s := reportTaken s rest) h hj.1 hgone]
    · rw [hexec, pageTurn_busy (s := reportTaken s rest) h hj.1 hr hi hf hl]
    · rw [hexec, pageTurn_stored (s := reportTaken s rest) h hj hserial hr hi hf ht]
      rfl
  · have hfill : (reportTaken s rest).fillAll r = filled := by
      rw [hfilled]
      exact fillAll_stored (s := reportTaken s rest) hk ((follows_iff _ _).2 ⟨hge, hle⟩) hlow hr hi hf ht
    have hexec : exec .pageStoreFrameReport s = .next (filled.pageTurn r) := by
      rw [exec_storeReport hreports, storeReport_turns (s := reportTaken s rest) hparam hrun, hfill]
    have hgone : (filled.pool.bufRec r.buffer).role ≠ .ring := by
      rw [hfilled]
      show (pool.bufRec r.buffer).role ≠ .ring
      rw [ht.role_page]
      decide
    have hpages : ∃ d : PageData, d.thumb = info.thumb ∧ filled.store.list = s.store.list ++ [k] ∧
        ∀ j, filled.store.page j = if j = k then .stored tag d else s.store.page j := by
      rw [hfilled]
      exact ⟨_, rfl, rfl, fun j => Store.page_setPage s.store k j _⟩
    obtain ⟨d, hthumb, hlist, hpage⟩ := hpages
    have hparams : filled.params = s.params := by rw [hfilled]; rfl
    refine ⟨fun hsame hlimit => ?_, fun h => ?_, fun h => ⟨fun hfull => ?_, fun j hj => ?_⟩⟩
    · have halike : AlikeToNewest filled r.thumb := by
        refine ⟨k, tag, d, by simp [hlist], by simp [hpage], ?_⟩
        rw [hthumb, hsame, thumbDifference_self, hparams]
        omega
      rw [hexec, pageTurn_duplicate halike]
    · rw [hexec, pageTurn_duplicate h]
    · rw [hexec, pageTurn_storeFull h fun j => ?_]
      rw [hpage]
      split
      · simp
      · exact hfull j
    · have hempty : filled.store.page j = .empty := by
        rw [hpage, if_neg, hj]
        rintro rfl
        simp [hk] at hj
      rw [hexec, pageTurn_gone h hempty (.inl hgone)]

end Sys2Proof.Statements

/-! SUPPORT. Pulls: the readiness of the timeline channel, the page channel a pull chooses, the headers and the page data of the
blocks, and the parts of a transfer, in the words of the statements. -/
namespace Sys2Proof.Statements

open Sys2Proof.Machine

/-! ### The timeline channel (R156, R176) -/

/-- With an oldest unsealed entry the channel is ready by the number, the age or the closing lesson. -/
theorem timelineReady_of_oldest {t : Timeline} {oldest : Entry} {rest : List Entry} (h : t.unsealed = oldest :: rest)
    (lesson : LessonState) (params : Params) :
    timelineReady t lesson params = true ↔
      params.readyCount ≤ t.entries.countP (fun e => !e.isSealed) ∨ params.readyAge ≤ (t.ms - oldest.arrival).toNat ∨
        lesson = .closing := by
  have hcount : t.entries.countP (fun e => !e.isSealed) = t.unsealed.length := List.countP_eq_length_filter
  have hage : t.age = some (t.ms - oldest.arrival).toNat := by rw [Timeline.age, h]; rfl
  rw [timelineReady, hage, hcount]
  simp only [Bool.or_eq_true, decide_eq_true_eq, or_assoc]

theorem timelineReady_iff (s : State) : timelineReady s.timeline s.lesson.state s.params = true ↔ TimelineReady s := by
  constructor
  · intro h
    cases hun : s.timeline.unsealed with
    | nil => simp [timelineReady, Timeline.age, hun] at h
    | cons oldest rest =>
      obtain ⟨before, after, hsplit, hsealed, hold, -⟩ := List.filter_eq_cons_iff.1 hun
      exact ⟨before, after, oldest, hsplit, by simpa using hsealed, by simpa using hold, (timelineReady_of_oldest hun _ _).1 h⟩
  · rintro ⟨before, after, oldest, hsplit, hsealed, hold, hdue⟩
    have hun : s.timeline.unsealed = oldest :: after.filter fun e => !e.isSealed :=
      List.filter_eq_cons_iff.2 ⟨before, after, hsplit, by simpa using hsealed, by simpa using hold, rfl⟩
    exact (timelineReady_of_oldest hun _ _).2 hdue

/-! ### The choice of a page channel (R163) -/

theorem active?_eq_some {c : Chan} {d : ChanData} : c.active? = some d ↔ c = .used .active d := by
  unfold Chan.active?
  split <;> simp_all

theorem serving_iff (l : Link) (c : Channel) : Serving l c ↔ (l.chan c).active?.isSome = true := by
  simp only [Serving, Option.isSome_iff_exists, active?_eq_some]

theorem inBurst_iff (l : Link) (c : Channel) : InBurst l c ↔ (l.chan c).inBurst = true := by
  simp only [InBurst, ← active?_eq_some, Chan.inBurst]
  cases (l.chan c).active? <;> simp

/-- The candidate that the alternation names is the one the model takes. -/
theorem Alternates.alternate_eq {l : Link} {P : Channel → Prop} {c : Channel} (f : Channel → Bool) (hf : ∀ e, P e ↔ f e = true)
    (h : Alternates l P c) : alternate l.lastServed (f .ex0) (f .ex1) = some c := by
  obtain ⟨hc, hother⟩ := h
  rw [hf] at hc
  cases c with
  | ex0 =>
    cases h1 : f .ex1 with
    | false => rw [hc]; rfl
    | true =>
      obtain ⟨hlast, -⟩ := hother .ex1 (by decide) ((hf _).2 h1)
      rw [hc, alternate, if_neg hlast]
  | ex1 =>
    cases h0 : f .ex0 with
    | false => rw [hc]; rfl
    | true =>
      obtain ⟨hlast, hfirst⟩ := hother .ex0 (by decide) ((hf _).2 h0)
      have hex0 : l.lastServed = some .ex0 := by
        cases hl : l.lastServed with
        | none => exact absurd (hfirst hl) (by decide)
        | some e => cases e with
          | ex0 => rfl
          | ex1 => exact absurd hl hlast
      rw [hc, alternate, if_pos hex0]

theorem alternate_none {P : Channel → Prop} (last : Option Channel) (f : Channel → Bool) (hf : ∀ e, P e ↔ f e = true)
    (h : ∀ e, ¬ P e) : alternate last (f .ex0) (f .ex1) = none := by
  have hfalse : ∀ e, f e = false := fun e => by simpa [hf] using h e
  rw [hfalse, hfalse]
  rfl

theorem Chosen.choose {l : Link} {c : Channel} (h : Chosen l c) : l.choose = some c := by
  unfold Link.choose
  rcases h with h | ⟨hnone, h⟩
  · have hburst : alternate l.lastServed l.ex0.inBurst l.ex1.inBurst = some c :=
      h.alternate_eq (fun e => (l.chan e).inBurst) (inBurst_iff l)
    rw [hburst]
  · have hburst : alternate l.lastServed l.ex0.inBurst l.ex1.inBurst = none :=
      alternate_none l.lastServed (fun e => (l.chan e).inBurst) (inBurst_iff l) hnone
    rw [hburst]
    exact h.alternate_eq (fun e => (l.chan e).active?.isSome) (serving_iff l)

theorem choose_none {l : Link} (h : ∀ c, ¬ Serving l c) : l.choose = none := by
  have hnone : ∀ c, ¬ InBurst l c := fun c ⟨d, hd, _⟩ => h c ⟨d, hd⟩
  have hburst : alternate l.lastServed l.ex0.inBurst l.ex1.inBurst = none :=
    alternate_none l.lastServed (fun e => (l.chan e).inBurst) (inBurst_iff l) hnone
  rw [Link.choose, hburst]
  exact alternate_none l.lastServed (fun e => (l.chan e).active?.isSome) (serving_iff l) h

/-! ### Blocks (R164, R169) -/

theorem statusHeader_eq (kind lesson count : Nat) :
    statusHeader kind lesson count = headerBytes (byte1 kind) 255 lesson 0 255 0 0 0 count := rfl

theorem flag1_decide (p : Prop) [Decidable p] : flag1 (decide p) = if p then 1 else 0 := by
  simp [flag1]

theorem byte1_channelCode (c : Channel) : byte1 (channelCode c) = if c = .ex0 then 0 else 1 := by
  cases c <;> rfl

theorem pageBlockHeader_eq (kind : BlockKind) (c : Channel) (lesson : Nat) (d : ChanData) (length : Nat) :
    pageBlockHeader kind c lesson d length =
      headerBytes (byte1 kind.code) (if c = .ex0 then 0 else 1) lesson d.serial (byte1 d.slot.val)
        (if d.sent + 1 = d.total then 1 else 0) d.sent length 0 := by
  rw [← flag1_decide, ← byte1_channelCode]
  rfl

theorem streamLength_eq (d : ChanData) : streamLength d.scope d.w d.h = streamBytes d := by
  unfold streamLength streamBytes
  cases d.scope <;> rfl

theorem streamAddress_eq (d : ChanData) (t : Nat) : streamAddress d t = streamByte d t := by
  unfold streamAddress streamByte
  cases d.scope with
  | full => rfl
  | window =>
    simp only [Memory.address, Config.bufferSize, Config.lineSize]
    omega

theorem blockAddresses_eq (d : ChanData) (k : Nat) :
    blockAddresses d k = (List.range (min 8192 (streamBytes d - 8192 * (k - 1)))).map fun t => streamByte d (8192 * (k - 1) + t) := by
  simp only [blockAddresses, streamLength_eq, streamAddress_eq]

/-- Every address exists (R1). -/
theorem missing_eq_none {addresses : List Nat} (h : ∀ a ∈ addresses, a < 536870912) : Memory.missing addresses = none := by
  simpa [Memory.missing] using h

/-- An address beyond the memory is missed (R1). -/
theorem missing_eq_some {addresses : List Nat} (h : ∃ a ∈ addresses, 536870912 ≤ a) :
    ∃ a, Memory.missing addresses = some a ∧ 536870912 ≤ a := by
  obtain ⟨a, ha⟩ : ∃ a, Memory.missing addresses = some a :=
    Option.isSome_iff_exists.1 (by simpa [Memory.missing] using h)
  exact ⟨a, ha, by simpa using List.find?_some ha⟩

/-! ### The opening of a transfer (R162) -/

theorem exec_opening_ready {s : State} (h : s.link.state = .ready) : exec (.exportPull .opening) s = s.pullReady := by
  simp only [exec, execExportPull, State.openTransfer, h]

theorem exec_opening_delivering {s : State} {b : Block} (h : s.link.state = .delivering b) :
    exec (.exportPull .opening) s = .next (s.opened .nothing) := by
  simp only [exec, execExportPull, State.openTransfer, h]

theorem exec_opening_halted {s : State} {cause : HaltCause} (h : s.link.state = .halted cause) :
    exec (.exportPull .opening) s = .next (s.opened (.header (statusHeader 5 s.lesson.number cause.code))) := by
  simp only [exec, execExportPull, State.openTransfer, h]

/-- A ready timeline channel is served first (R163). -/
theorem pullReady_timeline {s : State} (h : TimelineReady s) : s.pullReady = .next s.sendBatch := by
  rw [State.pullReady, if_pos ((timelineReady_iff s).2 h)]

theorem pullReady_idle {s : State} (ht : ¬ TimelineReady s) (h : ∀ c, ¬ Serving s.link c) :
    s.pullReady = .next (s.opened (.header (statusHeader 4 s.lesson.number 0))) := by
  rw [State.pullReady, if_neg (mt (timelineReady_iff s).1 ht), choose_none h]

theorem pullReady_page {s : State} {c : Channel} {d : ChanData} (ht : ¬ TimelineReady s) (hc : Chosen s.link c)
    (hd : s.link.chan c = .used .active d) : s.pullReady = s.sendPage c d := by
  simp only [State.pullReady, if_neg (mt (timelineReady_iff s).1 ht), hc.choose, active?_eq_some.2 hd]

theorem sendPage_header {s : State} {c : Channel} {d : ChanData} (h : d.sent = 0) :
    s.sendPage c d = .next ((s.withLink { s.link with lastServed := some c }).beginDelivery
      { channel := some c, index := 0, kind := .pageHeader }
      (pageBlockHeader .pageHeader c s.lesson.number d d.snapshot.length ++ d.snapshot)) := by
  rw [State.sendPage, if_pos h]

theorem sendPage_data {s : State} {c : Channel} {d : ChanData} (h : 0 < d.sent)
    (hm : Memory.missing (blockAddresses d d.sent) = none) :
    s.sendPage c d = .next ((s.withLink { s.link with lastServed := some c }).beginDelivery
      { channel := some c, index := d.sent, kind := .pageData }
      (pageBlockHeader .pageData c s.lesson.number d (blockAddresses d d.sent).length ++
        (blockAddresses d d.sent).map (Memory.read s.mem))) := by
  simp only [State.sendPage, if_neg h.ne', hm]

theorem sendPage_missing {s : State} {c : Channel} {d : ChanData} {a : Nat} (h : 0 < d.sent)
    (hm : Memory.missing (blockAddresses d d.sent) = some a) : s.sendPage c d = .fault (.noSuchAddress a) := by
  simp only [State.sendPage, if_neg h.ne', hm]

/-! ### The closing of a transfer (R162) -/

theorem exec_closing_whole {s : State} {after : Transfer} (hb : s.link.brokenOff = false) (ha : s.link.afterClosing = after) :
    exec (.exportPull .closing) s = .next { s with link := { s.link with transfer := after } } := by
  simp only [exec, execExportPull, s.closeTransfer_whole hb, ha]
  rfl

/-- Settles O55: the opening by the state of the link, then the bytes clocked, then the closing. -/
theorem pullAnswersByLinkState : Obligations.PullAnswersByLinkState := by
  refine ⟨fun s => ⟨fun cause hs => ?_, fun b hs => ?_, fun hs ht batch first rest last hbatch hfirst hlast => ?_,
      fun hs ht hnone => ?_, fun hs ht c d number hc hd hnumber => ⟨fun hsent => ?_,
        fun hsent start length hstart hlength => ⟨fun hin => ?_, fun hout => ?_⟩⟩⟩,
    fun s n => ⟨fun rest ht => ?_, fun ht howed => ⟨fun hn => ?_, fun hn => ?_⟩, fun h => ?_⟩,
    fun s => ⟨fun b ht hs => ?_, fun h => ?_⟩⟩
  · rw [exec_opening_halted hs, statusHeader_eq]
    rfl
  · rw [exec_opening_delivering hs]
    rfl
  · have hun : s.timeline.unsealed = batch := hbatch.symm
    have hseq : firstSeq batch = first.seq.toNat := by rw [hfirst]; rfl
    have hflag : flag1 s.lastBatch = last := by rw [hlast, ← flag1_decide]; rfl
    rw [exec_opening_ready hs, pullReady_timeline ht, State.sendBatch, hun, hseq, ← hflag]
    rfl
  · rw [exec_opening_ready hs, pullReady_idle ht hnone, statusHeader_eq]
    rfl
  · rw [exec_opening_ready hs, pullReady_page ht hc hd, sendPage_header hsent, pageBlockHeader_eq, hsent, hnumber]
    simp only [Nat.zero_add, @eq_comm Nat 1]
    rfl
  · have hblock : blockAddresses d d.sent = (List.range length).map fun t => streamByte d (start + t) := by
      rw [blockAddresses_eq, ← hstart, ← hlength]
    have hmissing : Memory.missing (blockAddresses d d.sent) = none := missing_eq_none (by simpa [hblock] using hin)
    rw [exec_opening_ready hs, pullReady_page ht hc hd, sendPage_data hsent hmissing, pageBlockHeader_eq, hblock, hnumber]
    simp only [List.length_map, List.length_range, List.map_map]
    rfl
  · have hblock : blockAddresses d d.sent = (List.range length).map fun t => streamByte d (start + t) := by
      rw [blockAddresses_eq, ← hstart, ← hlength]
    obtain ⟨a, hmissing, ha⟩ : ∃ a, Memory.missing (blockAddresses d d.sent) = some a ∧ 536870912 ≤ a :=
      missing_eq_some (by simpa [hblock] using hout)
    exact ⟨a, by rw [exec_opening_ready hs, pullReady_page ht hc hd, sendPage_missing hsent hmissing], ha⟩
  · simp only [exec, execExportPull, State.clockTransfer, ht]
    rfl
  · simp only [exec, execExportPull, s.clockTransfer_block n ht hn]
    rfl
  · simp only [exec, execExportPull, execExportDeliveryCompleted, s.clockTransfer_last n ht howed hn]
  · rcases h with ⟨ht, howed⟩ | ht | ht
    · simp [exec, execExportPull, State.clockTransfer, ht, howed]
    · simp [exec, execExportPull, State.clockTransfer, ht]
    · simp [exec, execExportPull, State.clockTransfer, ht]
  · exact exec_closing_whole (by simp [Link.brokenOff, ht]) (by simp [Link.afterClosing, ht, hs])
  · rcases h with ⟨ht, howed⟩ | ht | ht | ⟨ht, hs⟩
    · exact exec_closing_whole (by simp [Link.brokenOff, ht, howed]) (by simp [Link.afterClosing, ht])
    · exact exec_closing_whole (by simp [Link.brokenOff, ht]) (by simp [Link.afterClosing, ht])
    · exact exec_closing_whole (by simp [Link.brokenOff, ht]) (by simp [Link.afterClosing, ht])
    · refine exec_closing_whole (by simp [Link.brokenOff, ht]) ?_
      unfold Link.afterClosing
      split
      · next b _ hb => exact absurd hb (hs b)
      · rfl

end Sys2Proof.Statements

/-! SUPPORT. The lamp train: one microsecond of it and its two events (R36, R48). -/
namespace Sys2Proof.Statements

open Sys2Proof.Machine

/-- A microsecond at or past the moment of the next pulse begins that pulse (R48). -/
theorem microsecond_pulse {l : Light} (h : l.nextPulse ≤ l.trainTime + 1) :
    l.microsecond = { l with
      pulse := l.pulse + 1, trainTime := l.trainTime + 1, lampHigh := decide (l.onTime ≠ 0) } :=
  if_pos h

/-- Before that moment the pulse goes on, and the line is high until its on-time has run out (R48). -/
theorem microsecond_within {l : Light} (h : l.trainTime + 1 < l.nextPulse) :
    l.microsecond = { l with
      trainTime := l.trainTime + 1, lampHigh := l.lampHigh && decide (l.trainTime + 1 < l.onEnd) } :=
  if_neg (Nat.not_le.2 h)

/-- The line is high at the beginning of a pulse unless the on-time is 0 (R48). -/
theorem lampHigh_beginPulse (l : Light) : l.beginPulse.lampHigh = decide (0 < l.onTime) := by
  simp only [Light.beginPulse, Nat.pos_iff_ne_zero]

/-- A step with an empty queue lets one microsecond pass (log 3). -/
theorem step_empty {s : State} (h : s.pending = []) : step s = .next s.microsecond := by
  simp only [step, h]

/-- Settles O2: a microsecond begins a pulse or goes on within one, and each event of the train stands at its moment. -/
theorem timePassesInTheLampTrain : Obligations.TimePassesInTheLampTrain := by
  refine ⟨fun s hq => ⟨s.light.microsecond, step_empty hq, ?_⟩, fun s _ => ?_, fun s hhigh hon _ => ?_⟩
  · rcases Nat.lt_or_ge (s.light.trainTime + 1) s.light.nextPulse with hlt | hge
    · rw [microsecond_within hlt]
      exact ⟨rfl, rfl, fun hge => absurd hge (Nat.not_le.2 hlt), fun _ => ⟨rfl, rfl⟩⟩
    · rw [microsecond_pulse hge]
      exact ⟨rfl, rfl, fun _ => ⟨rfl, by simp only [Nat.pos_iff_ne_zero]⟩, fun hlt => absurd hge (Nat.not_le.2 hlt)⟩
  · rw [← lampHigh_beginPulse]
    rfl
  · have hfall : s.light.fallDue = true := by simp [Light.fallDue, hhigh, hon]
    show Host.Outcome.next (if s.light.fallDue then _ else _) = _
    rw [hfall]
    rfl

end Sys2Proof.Statements

/-! SUPPORT. Lines in reception: what the events of the sensor link come to in SEEKING and in RECEIVING, what a pixel pair adds to
the thumbnail sums, and the frames that are abandoned. -/
namespace Sys2Proof.Statements

open Sys2Proof.Machine

/-! ### The thumbnail sums (R34) -/

theorem length_addPair (sums : List Nat) (x y : Nat) (pair : Pair) : (addPair sums x y pair).length = sums.length := by
  simp only [addPair, List.length_modify]

/-- A cell of the sums raised where it is the one named. -/
theorem getD_modify_add (sums : List Nat) (i n c : Nat) (hc : c < sums.length) :
    (sums.modify i (fun m => m + n)).getD c 0 = sums.getD c 0 + if c = i then n else 0 := by
  simp only [List.getD_eq_getElem?_getD, List.getElem?_modify, List.getElem?_eq_getElem hc, eq_comm (a := i)]
  split <;> simp

/-- Each luma sample of a pair is added to the cell of its pixel (R34). -/
theorem getD_addPair (sums : List Nat) (x y : Nat) (pair : Pair) (c : Nat) (hc : c < sums.length) :
    (addPair sums x y pair).getD c 0 = sums.getD c 0
      + (if c = y / 60 * 64 + x / 60 then pair.y0.toNat else 0)
      + (if c = y / 60 * 64 + (x + 1) / 60 then pair.y1.toNat else 0) := by
  rw [addPair, getD_modify_add _ _ _ _ (by rwa [List.length_modify]), getD_modify_add _ _ _ _ hc]
  rfl

/-! ### Events of the sensor link (R21, R22, R25) -/

section
variable {s : State}

theorem exec_lineStart (hr : s.intake.state = .receiving) :
    exec .sensorLineStart s = .next (s.withIntake s.intake.lineStart) := by
  simp only [exec, execSensorLineStart, hr]

theorem exec_pixelPair (pair : Pair) (hr : s.intake.state = .receiving) :
    exec (.sensorPixelPair pair) s = .next (s.withIntake (s.intake.pixelPair pair)) := by
  simp only [exec, execSensorPixelPair, hr]

/-- A line end that closes no whole line makes the frame malformed (R22). -/
theorem exec_lineEnd_short (hr : s.intake.state = .receiving) (h : s.intake.lineWhole = false) :
    exec .sensorLineEnd s = .next s.malformed := by
  simp [exec, execSensorLineEnd, hr, h]

/-- The first line end of a frame writes nothing (R21). -/
theorem exec_lineEnd_first (hr : s.intake.state = .receiving) (h : s.intake.lineWhole = true) (h0 : s.intake.lineCount = 0) :
    exec .sensorLineEnd s = .next (s.withIntake s.intake.lineClosed) := by
  simp [exec, execSensorLineEnd, hr, h, h0]

/-- A frame end that does not complete the frame makes it malformed (R22). -/
theorem exec_frameEnd_short (hr : s.intake.state = .receiving) (h : s.intake.frameWhole = false) :
    exec .sensorFrameEnd s = .next s.malformed := by
  simp [exec, execSensorFrameEnd, hr, h]

end

/-- A line is whole when it is open and has all its pixels (R21). -/
theorem lineWhole_iff (i : Intake) : i.lineWhole = true ↔ i.lineOpen = true ∧ i.pixelCount = 3840 := by
  simp [Intake.lineWhole]

/-- A frame is whole when it has all its lines, none is open and it has not ended (R25). -/
theorem frameWhole_iff (i : Intake) :
    i.frameWhole = true ↔ (i.lineCount = 2880 ∧ i.lineOpen = false) ∧ i.frameEnd = false := by
  simp [Intake.frameWhole]

/-- Settles O39: the events in SEEKING, and then a line start, a pixel pair and the first line end of a frame. -/
theorem linesAndPixelsAreCounted : Obligations.LinesAndPixelsAreCounted := by
  refine ⟨fun s pair hs => ?_, fun s hr hopen hcount => ?_, fun s pair hr hopen hpix hsums hcount => ?_,
    fun s hr hopen hpix hcount => ?_⟩
  · simp only [exec, execSensorLineStart, execSensorPixelPair, execSensorLineEnd, execSensorFrameEnd, hs, and_self]
  · have hgood : ¬ (s.intake.lineOpen = true ∨ Config.frameLines ≤ s.intake.lineCount) := by
      simp [hopen, hcount]
    rw [exec_lineStart hr, Intake.lineStart, if_neg hgood]
    rfl
  · have hgood : ¬ (s.intake.lineOpen = false ∨ Config.framePixels < s.intake.pixelCount + 2) := by
      simp [hopen, hpix]
    refine ⟨addPair s.intake.sums s.intake.pixelCount s.intake.lineCount pair, by rw [length_addPair, hsums],
      fun c hc => getD_addPair _ _ _ _ _ (by omega), ?_⟩
    rw [exec_pixelPair pair hr, Intake.pixelPair, if_neg hgood]
    rfl
  · have hclosed : s.intake.lineClosed = { s.intake with
        lineOpen := false, lineCount := 1, above := s.intake.incoming.reverse, held := s.intake.incoming.reverse
        incoming := [] } := by
      simp [Intake.lineClosed, hcount]
    rw [exec_lineEnd_first hr ((lineWhole_iff _).2 ⟨hopen, hpix⟩) hcount, hclosed]
    rfl

/-! ### Malformed frames (R22, R24) -/

/-- A frame that is abandoned leaves the record of a malformed one. -/
theorem malformed_eq (s : State) : s.malformed = { s with intake := malformedIntake s.intake } := rfl

/-- Settles O41, cause by cause. -/
theorem malformedFramesAreAbandoned : Obligations.MalformedFramesAreAbandoned := by
  refine fun s => ⟨fun hr => ⟨fun pair hbad => ?_, fun hbad => ?_, fun hbad => ?_, fun hbad => ?_, fun b hb => ?_⟩,
    fun b hb => ?_⟩
  · rw [exec_pixelPair pair hr, Intake.pixelPair, if_pos hbad]
    rfl
  · have hshort : s.intake.lineWhole = false := by
      rw [← Bool.not_eq_true, lineWhole_iff]
      rintro ⟨hopen, hpix⟩
      exact hbad.elim (by simp [hopen]) (absurd hpix)
    rw [exec_lineEnd_short hr hshort, malformed_eq]
  · rw [exec_lineStart hr, Intake.lineStart, if_pos hbad]
    rfl
  · have hshort : s.intake.frameWhole = false := by
      rw [← Bool.not_eq_true, frameWhole_iff]
      rintro ⟨⟨hcount, hopen⟩, hend⟩
      simp [hcount, hopen, hend] at hbad
    rw [exec_frameEnd_short hr hshort, malformed_eq]
  · show Host.Outcome.next (if _ then s.malformed else s) = _
    rw [if_pos ⟨hr, hb⟩, malformed_eq]
  · have hnone : ¬ (s.intake.state = .receiving ∧ s.intake.writeBuffer = some b) := by
      rintro ⟨hr, hw⟩
      exact hb.elim (by simp [hr]) (absurd hw)
    show Host.Outcome.next (if _ then s.malformed else s) = _
    rw [if_neg hnone]

end Sys2Proof.Statements

/-! SUPPORT. Motion reports: the score of a thumbnail against the previous one, the rows of the detector's table, and what a report
leaves in the motion meter. -/
namespace Sys2Proof.Statements

open Sys2Proof.Machine

/-- Two lists of one length taken together cell by cell. -/
theorem zipWith_eq_map_range {α β : Type} (f : α → α → β) (zero : α) (n : Nat) (a b : List α) (ha : a.length = n)
    (hb : b.length = n) : List.zipWith f a b = (List.range n).map fun c => f (a.getD c zero) (b.getD c zero) := by
  refine List.ext_getElem (by simp [ha, hb]) fun i hi _ => ?_
  simp only [List.length_zipWith, lt_min_iff] at hi
  simp [List.getD_eq_getElem?_getD, hi.1, hi.2]

/-- The score is the mean absolute difference over the 3072 cells (R49). -/
theorem thumbDifference_eq (a b : List Byte) (ha : a.length = 3072) (hb : b.length = 3072) :
    thumbDifference a b = ((List.range 3072).map fun c =>
      (((a.getD c 0).toNat : Int) - ((b.getD c 0).toNat : Int)).natAbs).sum / 3072 := by
  rw [thumbDifference, zipWith_eq_map_range _ 0 3072 a b ha hb]

/-- The eight rows of the detector's table, as the statement lists them (R50). -/
def TableRow (d : Detector) (count score : Nat) (params : Params) (next : Detector) (settle : Nat) (fire : Bool) : Prop :=
  (d = .watching ∧ params.motionHigh ≤ score ∧ next = .moving ∧ settle = 0 ∧ fire = false) ∨
  (d = .watching ∧ score < params.motionHigh ∧ next = .watching ∧ settle = 0 ∧ fire = false) ∨
  (d = .moving ∧ params.motionLow ≤ score ∧ next = .moving ∧ settle = 0 ∧ fire = false) ∨
  (d = .moving ∧ score < params.motionLow ∧ 1 < params.settleFrames ∧ next = .settling ∧ settle = 1 ∧ fire = false) ∨
  (d = .moving ∧ score < params.motionLow ∧ params.settleFrames ≤ 1 ∧ next = .watching ∧ settle = 0 ∧ fire = true) ∨
  (d = .settling ∧ params.motionLow ≤ score ∧ next = .moving ∧ settle = 0 ∧ fire = false) ∨
  (d = .settling ∧ score < params.motionLow ∧ count + 1 < params.settleFrames ∧
    next = .settling ∧ settle = count + 1 ∧ fire = false) ∨
  (d = .settling ∧ score < params.motionLow ∧ params.settleFrames ≤ count + 1 ∧
    next = .watching ∧ settle = 0 ∧ fire = true)

/-- The detector moves by the row that applies (R50). -/
theorem TableRow.move_eq {d next : Detector} {count score settle : Nat} {params : Params} {fire : Bool}
    (h : TableRow d count score params next settle fire) : d.move count score params = (next, settle, fire) := by
  rcases h with ⟨rfl, hs, rfl, rfl, rfl⟩ | ⟨rfl, hs, rfl, rfl, rfl⟩ | ⟨rfl, hs, rfl, rfl, rfl⟩ | ⟨rfl, hs, hc, rfl, rfl, rfl⟩ |
    ⟨rfl, hs, hc, rfl, rfl, rfl⟩ | ⟨rfl, hs, rfl, rfl, rfl⟩ | ⟨rfl, hs, hc, rfl, rfl, rfl⟩ | ⟨rfl, hs, hc, rfl, rfl, rfl⟩
  · exact if_pos hs
  · exact if_neg (Nat.not_le.2 hs)
  · exact if_pos hs
  · exact (if_neg (Nat.not_le.2 hs)).trans (if_pos hc)
  · exact (if_neg (Nat.not_le.2 hs)).trans (if_neg (Nat.not_lt.2 hc))
  · exact if_pos hs
  · exact (if_neg (Nat.not_le.2 hs)).trans (if_pos hc)
  · exact (if_neg (Nat.not_le.2 hs)).trans (if_neg (Nat.not_lt.2 hc))

/-- A report that finds no previous thumbnail has no score and a clear mark (R49, R53). -/
theorem motionReport_unscored {m : Motion} {r : MeterReport} (params : Params) (h : m.found r.endsStall = none) :
    m.report r params = ({ m with previous := some r.report.thumb }, false) := by
  simp only [Motion.report, h]

/-- A report that finds one is scored against it and moves the detector (R49, R50). -/
theorem motionReport_scored {m : Motion} {r : MeterReport} {params : Params} {before : List Byte} {next : Detector} {settle : Nat}
    {fire : Bool} (h : m.found r.endsStall = some before)
    (hmove : m.detector.move m.settle (thumbDifference r.report.thumb before) params = (next, settle, fire)) :
    m.report r params =
      ({ m with previous := some r.report.thumb, score := some (thumbDifference r.report.thumb before), detector := next
                settle := settle }, fire) := by
  simp only [Motion.report, h, hmove]

/-- The oldest report in transit is taken, and passed on with its mark (R52). -/
theorem exec_motionReport {s : State} {r : MeterReport} {rest : List MeterReport} {after : Motion} {fire : Bool}
    (hq : s.motion.reports = r :: rest) (h : s.motion.report r s.params = (after, fire)) :
    exec .motionFrameReport s = .next { s with
      motion := { after with reports := rest }
      store := { s.store with reports := s.store.reports ++ [{ report := r.report, fire := fire }] } } := by
  simp only [exec, execMotionFrameReport, State.motionReport, hq, h]
  rfl

/-- DETECTOR_FIRE is the report, where the report fires (log 5). -/
theorem exec_detectorFire {s : State} {r : MeterReport} {rest : List MeterReport} (hq : s.motion.reports = r :: rest)
    (h : (s.motion.report r s.params).2 = true) : exec .detectorFire s = exec .motionFrameReport s := by
  simp only [exec, execDetectorFire, execMotionFrameReport, State.fireDue, hq, h, if_true]

/-- Settles O46: the report without a score, and the scored one by the row of the table that applies. -/
theorem motionReportMovesTheDetector : Obligations.MotionReportMovesTheDetector := by
  intro s r ends rest hq
  refine ⟨fun hnone => ?_, fun before m next settle fire hends hbefore hlb hlr hm hrow => ?_⟩
  · have hfound : s.motion.found ends = none := by
      rcases hnone with rfl | hprev
      · rfl
      · simp [Motion.found, hprev]
    exact exec_motionReport hq (motionReport_unscored s.params hfound)
  · have hfound : s.motion.found ends = some before := by rw [hends]; exact hbefore
    rw [← thumbDifference_eq _ _ hlr hlb] at hm
    subst hm
    have hreport := motionReport_scored (m := s.motion) (r := { report := r, endsStall := ends }) (params := s.params) hfound
      (TableRow.move_eq hrow)
    exact ⟨exec_motionReport hq hreport, fun hfire => exec_detectorFire hq (by rw [hreport, hfire])⟩

end Sys2Proof.Statements

/-! SUPPORT. Picture requests: the arguments of SET_CLARITY, SET_EXPOSURE and SET_LAMP, and what each answers. -/
namespace Sys2Proof.Statements

open Sys2Proof.Machine

/-! ### The answer to a request of one length (R104, R181, R192) -/

theorem Hands.args_eq {s : State} {p : Port} {k : Fin 4} {q : Request} {code : Byte} {args : List Byte}
    (h : Hands s p k q code args) : q.args = args := by
  obtain ⟨-, -, hargs⟩ := h
  exact hargs

theorem Hands.lengthAllowed {s : State} {p : Port} {k : Fin 4} {q : Request} {code : Byte} {args : List Byte}
    (h : Hands s p k q code args) (hl : requestLengths code.toNat = some (args.length, args.length)) :
    lengthAllowed q = true := by
  obtain ⟨-, hcode, hargs⟩ := h
  simp [Machine.lengthAllowed, hcode, hargs, hl]

/-- The holder's gated request is answered as its unit answers it, where that leaves the tenancy record. -/
theorem serveGated_answer {s : State} {p : Port} {k : Fin 4} {q : Request} {code : Byte} {args : List Byte} {n : Nat}
    (body : Request → State → Answer) {answer : Answer} (h : Hands s p k q code args) (hn : code.toNat = n)
    (hl : requestLengths code.toNat = some (args.length, args.length)) (hold : Holding s p)
    (ha : body q (admitted s) = answer) (ht : answer.state.tenancy = (admitted s).tenancy) :
    serveGated n p body s = .next (answer.state.reply p k q answer.status answer.results) := by
  subst ha
  exact serveGated_eq h hn (h.lengthAllowed hl) hold ht

/-! ### Arguments (R33, R43, R45) -/

/-- The two-byte signed field is the value of its two bytes in two's complement (00_scope.md, Multi-byte fields). -/
theorem argS16_eq_toInt (m a b : Byte) : argS16 [m, a, b] 1 = (a ++ b : BitVec 16).toInt := by
  have hword : (a ++ b : BitVec 16).toNat = 256 * a.toNat + b.toNat := by
    rw [BitVec.toNat_append, ← Nat.shiftLeft_add_eq_or_of_lt b.isLt, Nat.shiftLeft_eq]
    omega
  have hfield : argU16 [m, a, b] 1 = 256 * a.toNat + b.toNat := rfl
  have hsmall := (a ++ b : BitVec 16).isLt
  rw [BitVec.toInt_eq_toNat_cond, argS16, hfield, hword]
  split <;> split <;> omega

/-- A level is clamped at its top alone (R45). -/
theorem clampNat_zero (hi x : Nat) : clampNat 0 hi x = min hi x := by
  unfold clampNat
  split
  · omega
  · split <;> omega

/-- A number above 3 names no profile (R33). -/
theorem profile_ofCode_none {n : Nat} (h : 3 < n) : Profile.ofCode n = none := by
  obtain ⟨i, rfl⟩ := Nat.exists_eq_add_of_le' h
  rfl

/-- A number above 2 names no exposure mode (R43). -/
theorem exposureMode_ofCode_none {n : Nat} (h : 2 < n) : ExposureMode.ofCode n = none := by
  obtain ⟨i, rfl⟩ := Nat.exists_eq_add_of_le' h
  rfl

/-- The four profile bytes (R33). -/
theorem profile_ofCode_mem {m : Byte} {profile : Profile}
    (h : (m, profile) ∈ [((0 : Byte), Profile.off), (1, .text), (2, .picture), (3, .custom)]) :
    Profile.ofCode m.toNat = some profile := by
  simp only [List.mem_cons, Prod.mk.injEq, List.not_mem_nil, or_false] at h
  rcases h with ⟨rfl, rfl⟩ | ⟨rfl, rfl⟩ | ⟨rfl, rfl⟩ | ⟨rfl, rfl⟩ <;> rfl

/-! ### The answers of the units (R33, R43, R45) -/

/-- A change of mode clears the runs when it is to or from AUTO (R43). -/
theorem withMode_eq (l : Light) (mode : ExposureMode) :
    l.withMode mode = { l with
      mode := mode
      darkRun := if (l.mode = .auto) = (mode = .auto) then l.darkRun else 0
      brightRun := if (l.mode = .auto) = (mode = .auto) then l.brightRun else 0 } := by
  by_cases h : (l.mode = .auto) = (mode = .auto)
  · simp [Light.withMode, h]
  · have hbool : ¬ (decide (l.mode = .auto) = decide (mode = .auto)) := by simpa using h
    simp only [Light.withMode, if_neg hbool, if_neg h]

section
variable {s : State} {q : Request}

theorem setClarity_refused {m : Byte} (hq : q.args = [m]) (h : 3 < m) :
    s.setClarity q = .plain s .badArgument := by
  have hnone : Profile.ofCode (argByte q.args 0) = none := profile_ofCode_none (by rw [hq]; exact BitVec.lt_def.1 h)
  simp only [State.setClarity, hnone]

theorem setClarity_set {m : Byte} {profile : Profile} (hq : q.args = [m])
    (h : Profile.ofCode m.toNat = some profile) :
    s.setClarity q = .ok (s.withIntake { s.intake with profile := profile }) [] := by
  have hsome : Profile.ofCode (argByte q.args 0) = some profile := by rw [hq]; exact h
  simp only [State.setClarity, hsome]

theorem setExposure_refused {m a b : Byte} (hq : q.args = [m, a, b]) (h : 2 < m) :
    s.setExposure q = .plain s .badArgument := by
  have hnone : ExposureMode.ofCode (argByte q.args 0) = none :=
    exposureMode_ofCode_none (by rw [hq]; exact BitVec.lt_def.1 h)
  simp only [State.setExposure, hnone]

/-- SET_EXPOSURE to AUTO or HOLD sets the mode, and a change to or from AUTO clears the runs (R43). -/
theorem setExposure_mode {m a b : Byte} {mode : ExposureMode} (hq : q.args = [m, a, b])
    (h : (m = 0 ∧ mode = .auto) ∨ (m = 1 ∧ mode = .hold)) :
    s.setExposure q = .ok (s.withLight { s.light with
        mode := mode
        darkRun := if (s.light.mode = .auto) = (mode = .auto) then s.light.darkRun else 0
        brightRun := if (s.light.mode = .auto) = (mode = .auto) then s.light.brightRun else 0 })
      [byte1 s.light.e, byte1 s.light.manual] := by
  have hmode : s.setExposure q =
      .ok (s.withLight (s.light.withMode mode)) (s.light.withMode mode).exposureResults := by
    rcases h with ⟨rfl, rfl⟩ | ⟨rfl, rfl⟩ <;> simp only [State.setExposure, hq] <;> rfl
  rw [hmode, withMode_eq]
  rfl

/-- SET_EXPOSURE to MANUAL sets the clamped value, and E too unless a stall stands, and from AUTO clears the runs (R42, R43). -/
theorem setExposure_manual {a b : Byte} {value e : Nat} (hq : q.args = [2, a, b])
    (hvalue : (value : Int) = max 0 (min 255 (a ++ b : BitVec 16).toInt)) (he : e = if s.light.stalled then s.light.e else value) :
    s.setExposure q = .ok (s.withLight { s.light with
        mode := .manual, manual := value, e := e
        darkRun := if s.light.mode = .auto then 0 else s.light.darkRun
        brightRun := if s.light.mode = .auto then 0 else s.light.brightRun }) [byte1 e, byte1 value] := by
  have hclamp : clampInt 0 255 (argS16 [2, a, b] 1) = value := by
    rw [← Int.natCast_inj, clampInt_eq _ _ _ (by omega), argS16_eq_toInt, hvalue]
    rfl
  have hmode : s.light.withMode .manual = { s.light with
      mode := .manual
      darkRun := if s.light.mode = .auto then 0 else s.light.darkRun
      brightRun := if s.light.mode = .auto then 0 else s.light.brightRun } := by
    rw [withMode_eq]
    simp
  have hcode : ExposureMode.ofCode (argByte [2, a, b] 0) = some .manual := rfl
  simp only [State.setExposure, hq, hcode, hclamp, ← he, hmode]
  rfl

theorem setLamp_refused {l a : Byte} (hq : q.args = [l, a]) (h : 1 < a) : s.setLamp q = .plain s .badArgument := by
  rw [State.setLamp, hq]
  exact if_pos (BitVec.lt_def.1 h)

/-- SET_LAMP sets the clamped level and auto lamp, and clears the runs when it changes either (R45, R46). -/
theorem setLamp_set {l a : Byte} {same : Bool} (hq : q.args = [l, a]) (ha : a ≤ 1)
    (hsame : same = (decide (min 10 l.toNat = s.light.setLevel) && decide (s.light.auto = decide (a = 1)))) :
    s.setLamp q = .ok (s.withLight { s.light with
        setLevel := min 10 l.toNat, auto := decide (a = 1)
        darkRun := if same then s.light.darkRun else 0
        brightRun := if same then s.light.brightRun else 0 }) [byte1 (min 10 l.toNat)] := by
  have hin : ¬ 1 < argByte [l, a] 1 := Nat.not_lt.2 (BitVec.le_def.1 ha)
  have hlevel : clampNat 0 10 (argByte [l, a] 0) = min 10 l.toNat := clampNat_zero 10 l.toNat
  have hauto : decide (argByte [l, a] 1 = 1) = decide (a = 1) := by
    show decide (a.toNat = 1) = _
    simp [BitVec.toNat_eq]
  have hkeeps : (min 10 l.toNat = s.light.setLevel ∧ decide (a = 1) = s.light.auto) ↔ same = true := by
    rw [hsame]
    simp [eq_comm (a := s.light.auto)]
  simp only [State.setLamp, hq, if_neg hin, hlevel, hauto]
  cases same with
  | false => rw [if_neg (mt hkeeps.1 (by decide))]; rfl
  | true =>
    obtain ⟨hl, ha1⟩ := hkeeps.2 rfl
    rw [if_pos ⟨hl, ha1⟩, hl, ha1]
    rfl

end

/-! ### The three requests -/

/-- Settles O44: each request is the holder's, of its one length, and answers by its arguments. -/
theorem pictureRequestsSetTheirFields : Obligations.PictureRequestsSetTheirFields := by
  intro s p k q hold
  refine ⟨fun m hq => ⟨fun hm => ?_, fun profile hm => ?_⟩, fun m a b hq => ⟨fun hm => ?_, fun mode hm => ?_, ?_⟩,
    fun l a hq => ⟨fun ha => ?_, ?_⟩⟩
  · exact serveGated_answer (fun q s => s.setClarity q) hq rfl rfl hold (setClarity_refused hq.args_eq hm) rfl
  · exact serveGated_answer (fun q s => s.setClarity q) hq rfl rfl hold (setClarity_set hq.args_eq (profile_ofCode_mem hm)) rfl
  · exact serveGated_answer (fun q s => s.setExposure q) hq rfl rfl hold (setExposure_refused hq.args_eq hm) rfl
  · exact serveGated_answer (fun q s => s.setExposure q) hq rfl rfl hold (setExposure_mode hq.args_eq hm) rfl
  · rintro rfl value e hvalue he
    exact serveGated_answer (fun q s => s.setExposure q) hq rfl rfl hold
      (setExposure_manual (s := admitted s) hq.args_eq hvalue he) rfl
  · exact serveGated_answer (fun q s => s.setLamp q) hq rfl rfl hold (setLamp_refused hq.args_eq ha) rfl
  · rintro ha level rfl same hsame
    exact serveGated_answer (fun q s => s.setLamp q) hq rfl rfl hold
      (setLamp_set (s := admitted s) hq.args_eq ha hsame) rfl

end Sys2Proof.Statements

/-! SUPPORT. Output frame starts: the count at the intake unit with its stall event, and the commit with its frame begin, in the
words of the statements. -/
namespace Sys2Proof.Statements

open Sys2Proof.Machine

/-! ### Reservations at a stall (R129) -/

/-- The notice of a stall for the record of slot `k` in the store `st`, posted where it is a reservation. -/
def announced (st : Store) (u : State) (k : SlotId) : State :=
  match st.page k with
  | .reserved tag _ => u.postAll (.captureFailed k tag.serial tag.origin .stalled) none
  | _ => u

/-- The store with the record of slot `k` EMPTY where it is a reservation. -/
def emptied (st : Store) (k : SlotId) : Store :=
  match st.page k with
  | .reserved _ _ => st.setPage k .empty
  | _ => st

/-- What a record is after a stall. -/
def unreserved (r : PageRec) : PageRec :=
  match r with
  | .reserved _ _ => .empty
  | other => other

/-- One record at a stall: its notice, and its place in the store. -/
theorem failReservation_eq (s : State) (k : SlotId) :
    s.failReservation k = (announced s.store s k).withStore (emptied s.store k) := by
  unfold State.failReservation announced emptied
  cases s.store.page k <;> rfl

/-- A notice looks at the ports and changes them alone. -/
theorem announced_withPorts (st : Store) (s : State) (k : SlotId) : announced st s k = s.withPorts (announced st s k).ports := by
  unfold announced
  cases st.page k <;> rfl

/-- A notice posted to every port looks at the ports alone. -/
theorem postAll_ports_congr {s t : State} (n : Notice) (o : Option Port) (h : s.ports = t.ports) :
    (s.postAll n o).ports = (t.postAll n o).ports := by
  simp only [State.postAll, State.port, h, State.ports_withPorts]

theorem announced_ports_congr (st : Store) {s t : State} (k : SlotId) (h : s.ports = t.ports) :
    (announced st s k).ports = (announced st t k).ports := by
  unfold announced
  cases st.page k with
  | reserved tag after => exact postAll_ports_congr _ _ h
  | _ => exact h

/-- Only the record of its own slot decides a notice. -/
theorem announced_store_congr {st st' : Store} (s : State) (k : SlotId) (h : st.page k = st'.page k) :
    announced st s k = announced st' s k := by
  simp only [announced, h]

theorem page_emptied (st : Store) (k j : SlotId) :
    (emptied st k).page j = if j = k then unreserved (st.page j) else st.page j := by
  unfold emptied
  split
  · next h =>
    rw [Store.page_setPage]
    split
    · next hj => rw [hj, h]; rfl
    · rfl
  · next h =>
    split
    · next hj =>
      subst hj
      cases hp : st.page j with
      | reserved tag after => exact absurd hp (h tag after)
      | _ => rfl
    · rfl

theorem unreserved_idem (r : PageRec) : unreserved (unreserved r) = unreserved r := by cases r <;> rfl

/-- The records of the slots listed, after a stall. -/
theorem page_foldl_emptied (l : List SlotId) (st : Store) (j : SlotId) :
    (l.foldl emptied st).page j = if j ∈ l then unreserved (st.page j) else st.page j := by
  induction l generalizing st with
  | nil => rfl
  | cons k l ih =>
    rw [List.foldl_cons, ih, page_emptied]
    by_cases hk : j = k <;> by_cases hl : j ∈ l <;> simp [hk, hl, unreserved_idem]

/-- Only the records of the store change. -/
theorem foldl_emptied_eq (l : List SlotId) (st : Store) : l.foldl emptied st = { st with pages := (l.foldl emptied st).pages } := by
  induction l generalizing st with
  | nil => rfl
  | cons k l ih =>
    rw [List.foldl_cons, ih]
    unfold emptied
    cases st.page k <;> rfl

theorem foldl_announced_withPorts (st : Store) (l : List SlotId) (s : State) :
    l.foldl (announced st) s = s.withPorts (l.foldl (announced st) s).ports := by
  induction l generalizing s with
  | nil => rfl
  | cons k l ih =>
    rw [List.foldl_cons, ih, announced_withPorts]
    rfl

theorem foldl_announced_ports_congr (st : Store) (l : List SlotId) {s t : State} (h : s.ports = t.ports) :
    (l.foldl (announced st) s).ports = (l.foldl (announced st) t).ports := by
  induction l generalizing s t with
  | nil => exact h
  | cons k l ih => exact ih (announced_ports_congr st k h)

/-- A notice does not look at the store of the part. -/
theorem announced_withStore (st x : Store) (s : State) (k : SlotId) :
    announced st (s.withStore x) k = (announced st s k).withStore x := by
  unfold announced
  cases st.page k <;> rfl

/-- The reservations of distinct slots fail by their records as they stood at first: the notices in order, and the records. -/
theorem foldl_failReservation (l : List SlotId) (hl : l.Nodup) (s : State) :
    l.foldl State.failReservation s = (l.foldl (announced s.store) s).withStore (l.foldl emptied s.store) := by
  induction l using List.reverseRecOn with
  | nil => rfl
  | append_singleton l k ih =>
    obtain ⟨hlast, hnodup⟩ : k ∉ l ∧ l.Nodup := by
      rw [List.nodup_append_comm] at hl
      exact List.nodup_cons.1 hl
    have hpage : (l.foldl emptied s.store).page k = s.store.page k := by rw [page_foldl_emptied, if_neg hlast]
    simp only [List.foldl_append, List.foldl_cons, List.foldl_nil, ih hnodup]
    rw [failReservation_eq, State.store_withStore, announced_withStore, announced_store_congr _ k hpage]
    rfl

/-- The same, field by field: the records and the ports change, and nothing else. -/
theorem foldl_failReservation_eq (l : List SlotId) (hl : l.Nodup) (s : State) :
    l.foldl State.failReservation s = { s with
      store := { s.store with pages := (l.foldl emptied s.store).pages }
      ports := (l.foldl (announced s.store) s).ports } := by
  rw [foldl_failReservation l hl, foldl_announced_withPorts, foldl_emptied_eq]
  rfl

/-- A stall at the page store: every reservation is EMPTY and is announced, in slot order (R129). -/
theorem failReservations_spec (s : State) : ∃ pages,
    s.failReservations = { s with
      store := { s.store with pages := pages }
      ports := ((List.finRange 20).foldl (announced s.store) s).ports } ∧
    ∀ k : SlotId, Store.page { s.store with pages := pages } k = unreserved (s.store.page k) := by
  refine ⟨_, foldl_failReservation_eq _ (List.nodup_finRange 20) s, fun k => ?_⟩
  rw [← foldl_emptied_eq, page_foldl_emptied, if_pos (List.mem_finRange k)]

/-! ### The count and the stall event (R27, R28) -/

theorem stallDue_counted (s : State) : s.intake.counted.stallDue s.params = true ↔ StallDue s := by
  simp [Intake.stallDue, Intake.counted, StallDue]

/-- The intake record at the stall event: a frame in hand is abandoned, the count stands (R28). -/
theorem stall_counted (i : Intake) :
    i.counted.stall = { (if i.state = .receiving then malformedIntake i else i) with
      stalled := true, sinceCompletion := min 255 (i.sinceCompletion + 1) } := by
  have hstate : i.counted.state = i.state := rfl
  rw [Intake.stall, ended_eq, hstate]
  split <;> rfl

/-- The notices of a stall event, taken from the ports, the reservations and the last completed frame (R28, R129). -/
theorem stallNotices_congr {s t : State} (hports : s.ports = t.ports) (hstore : s.store = t.store)
    (hlast : s.intake.lastCompleted = t.intake.lastCompleted) (hany : s.intake.completed = t.intake.completed) :
    stallNotices s = stallNotices t := by
  show ((List.finRange 20).foldl (announced s.store) _).ports = ((List.finRange 20).foldl (announced t.store) _).ports
  rw [hstore, hlast, hany]
  exact foldl_announced_ports_congr _ _ (postAll_ports_congr _ _ hports)

/-- The reservations fail after the intake unit has posted its notice: the notices are those of the stall event. -/
theorem failReservations_announced {s u : State} (hstore : u.store = s.store)
    (hports : u.ports = (s.postAll (.intakeStalled s.intake.lastCompleted s.intake.completed) none).ports) : ∃ pages,
    u.failReservations = { u with store := { s.store with pages := pages }, ports := stallNotices s } ∧
    ∀ k : SlotId, Store.page { s.store with pages := pages } k = unreserved (s.store.page k) := by
  obtain ⟨pages, heq, hpage⟩ := failReservations_spec u
  rw [hstore, foldl_announced_ports_congr s.store _ hports] at heq
  rw [hstore] at hpage
  exact ⟨pages, heq, hpage⟩

/-- What a stall changes before the reservations fail: three records, and the intake unit's notice (R28, R42, R53). -/
def stallBegun (s : State) : State :=
  { s with
    intake := s.intake.stall, light := s.light.stall, motion := s.motion.stall
    ports := (s.postAll (.intakeStalled s.intake.lastCompleted s.intake.completed) none).ports }

theorem stall_eq (s : State) : s.stall = (stallBegun s).failReservations := rfl

/-- The stall event at the four blocks (R28, R42, R53, R129). -/
theorem stall_spec (s : State) : ∃ pages,
    s.stall = { s with
      intake := s.intake.stall, light := s.light.stall, motion := s.motion.stall
      store := { s.store with pages := pages }, ports := stallNotices s } ∧
    ∀ k : SlotId, Store.page { s.store with pages := pages } k = unreserved (s.store.page k) := by
  rw [stall_eq]
  exact failReservations_announced (u := stallBegun s) rfl rfl

/-- The count of an output frame start, with its stall event, is the one of the statements (R27). -/
theorem countOutputFrame_counted (s : State) : OutputFrameCounted s s.countOutputFrame := by
  refine ⟨fun h => if_neg (mt (stallDue_counted s).1 h), fun h => ?_⟩
  have hstall : s.countOutputFrame = (s.withIntake s.intake.counted).stall := if_pos ((stallDue_counted s).2 h)
  obtain ⟨pages, heq, hpage⟩ := stall_spec (s.withIntake s.intake.counted)
  have hnotices : stallNotices (s.withIntake s.intake.counted) = stallNotices s := stallNotices_congr rfl rfl rfl rfl
  rw [hstall, heq, hnotices, State.intake_withIntake, stall_counted]
  exact ⟨rfl, hpage⟩

/-! ### The commit (R70, R78, R79) -/

/-- The view that a commit leaves (R70, R79). -/
def committedView (s : State) : View :=
  let new := s.view.committed s.feed.mode
  { new with moved := new.moved && !new.atRest }

/-- The timeline that a commit leaves (R78, R153). -/
def committedTimeline (s : State) : Timeline :=
  (commitOffers s.view (s.view.committed s.feed.mode)).foldl
    (fun line o => line.offer s.lesson.state s.lesson.time o) s.timeline

theorem commit_eq (s : State) : s.commit = (s.withView (committedView s)).withTimeline (committedTimeline s) := by
  unfold State.commit
  rw [State.offerAll_eq]
  rfl

/-! ### The frame begin (R83, R85, R90, R91) -/

/-- The feed record once the pins of the frame before are released and the frame is counted (R83, R90). -/
def countedFeed (f : Feed) : Feed := { f with first := Area.reset, second := Area.reset, frames := f.frames + 1 }

/-- The part when a commit has been made and the pins of the frame before are released. -/
def beginning (s : State) : State :=
  (((pinsReleased s).withView (committedView s)).withTimeline (committedTimeline s)).withFeed (countedFeed s.feed)

theorem feed_pinsReleased (s : State) : (pinsReleased s).feed = s.feed := by simp [pinsReleased]

theorem commitAndBegin_eq (s : State) : s.commitAndBegin = (beginning s).beginFrame := by
  have hrelease : s.commit.releaseFeed = beginning s := by
    rw [commit_eq, State.releaseFeed, State.unpin?_withView, State.unpin?_withView]
    show State.withFeed _ (countedFeed (pinsReleased s).feed) = _
    rw [feed_pinsReleased]
    rfl
  rw [State.commitAndBegin, State.frameBegin, hrelease]

/-- Pins taken depend on the pool alone. -/
theorem pins_pool_congr {s t : State} (a b : Option BufId) (h : s.pool = t.pool) :
    ((s.pin? a).pin? b).pool = ((t.pin? a).pin? b).pool :=
  State.pin?_pool_congr _ _ b (State.pin?_pool_congr s t a h)

/-- A frame that begins with no pin left: the feed record, the pins it records, and the notice of RUNNING entered (R85, R87,
R91). -/
theorem beginFrame_spec {s : State} (hfirst : s.feed.first.pin = none) (hsecond : s.feed.second.pin = none) : ∃ f : Feed,
    s.beginFrame = { s with
      feed := f
      pool := ((s.pin? f.first.pin).pin? f.second.pin).pool
      ports := if s.feed.startDue then (s.postAll (.feedState .running .starting s.feed.mode .started) none).ports
        else s.ports } := by
  cases hstate : s.feed.state with
  | detached =>
    refine ⟨s.feed, ?_⟩
    rw [hfirst, hsecond, if_neg (by simp [Feed.startDue, hstate])]
    simp only [State.beginFrame, hstate]
    rfl
  | starting =>
    by_cases hcount : s.feed.starting < 4
    · refine ⟨{ s.feed with starting := s.feed.starting + 1 }, ?_⟩
      rw [hfirst, hsecond, if_neg (by simp [Feed.startDue, hcount])]
      simp only [State.beginFrame, hstate, hcount, if_true]
      rfl
    · have hdue : s.feed.startDue = true := by simpa [Feed.startDue, hstate] using hcount
      have hstart : s.beginFrame = s.startFeed.beginRunning := by simp only [State.beginFrame, hstate, hcount, if_false]
      have hpost : s.startFeed = (s.withFeed { s.feed with state := .running }).postAll
          (.feedState .running .starting s.feed.mode .started) none := by
        rw [State.startFeed, State.enterFeed, hstate]
      refine ⟨s.startFeed.beginRunning.feed, ?_⟩
      rw [hstart, if_pos hdue, pins_pool_congr (s := s) (t := s.startFeed) _ _ rfl]
      refine s.startFeed.beginRunning_eq.trans ?_
      generalize s.startFeed.beginRunning.feed = f
      rw [hpost]
      rfl
  | running =>
    refine ⟨s.beginRunning.feed, ?_⟩
    rw [if_neg (by simp [Feed.startDue, hstate])]
    simp only [State.beginFrame, hstate]
    exact s.beginRunning_eq

/-- The releases change the pool, the store and the ports alone (R12, R13, R135). -/
theorem pinsReleased_eq (s : State) :
    pinsReleased s = { s with
      pool := (pinsReleased s).pool, store := (pinsReleased s).store, ports := (pinsReleased s).ports } := by
  have hunpin : ∀ (u : State) (o : Option BufId),
      u.unpin? o = { u with pool := (u.unpin? o).pool, store := (u.unpin? o).store, ports := (u.unpin? o).ports } := by
    rintro u (_ | b)
    · rfl
    · exact u.unpin_eq b
  unfold pinsReleased
  rw [hunpin (s.unpin? _), hunpin s]

theorem beginning_eq (s : State) :
    beginning s = { s with
      pool := (pinsReleased s).pool, store := (pinsReleased s).store, ports := (pinsReleased s).ports
      view := committedView s, timeline := committedTimeline s, feed := countedFeed s.feed } := by
  unfold beginning
  rw [pinsReleased_eq]
  rfl

/-- The commit with its frame begin: the view and the timeline of the commit, the feed record, the pins released and taken with
what their release frees, and the notice of RUNNING entered (R70, R83, R85, R87, R90, R91). -/
theorem commitAndBegin_spec (s : State) : ∃ f : Feed,
    s.commitAndBegin = { s with
      view := committedView s, timeline := committedTimeline s, feed := f
      store := (pinsReleased s).store
      pool := (((pinsReleased s).pin? f.first.pin).pin? f.second.pin).pool
      ports := if s.feed.startDue then
          ((pinsReleased s).postAll (.feedState .running .starting s.feed.mode .started) none).ports
        else (pinsReleased s).ports } := by
  obtain ⟨f, hbegin⟩ := beginFrame_spec (s := beginning s) rfl rfl
  refine ⟨f, ?_⟩
  rw [commitAndBegin_eq, hbegin, pins_pool_congr (s := beginning s) (t := pinsReleased s) _ _ rfl, beginning_eq]
  rfl

theorem commitAndBegin_begun (s : State) : CommittedAndBegun s s.commitAndBegin := by
  obtain ⟨f, hbegin⟩ := commitAndBegin_spec s
  rw [CommittedAndBegun, hbegin]
  simp only [Feed.startDue, decide_eq_true_eq]

theorem view_commitAndBegin (s : State) : s.commitAndBegin.view = committedView s := by
  obtain ⟨f, hbegin⟩ := commitAndBegin_spec s
  rw [hbegin]

theorem timeline_commitAndBegin (s : State) : s.commitAndBegin.timeline = committedTimeline s := by
  obtain ⟨f, hbegin⟩ := commitAndBegin_spec s
  rw [hbegin]

theorem store_commitAndBegin (s : State) : s.commitAndBegin.store = (pinsReleased s).store := by
  obtain ⟨f, hbegin⟩ := commitAndBegin_spec s
  rw [hbegin]

/-- In DETACHED with no pins the frame is counted and the areas are black (R83, R93). -/
theorem commitAndBegin_detached {s : State} (hstate : s.feed.state = .detached) (hfirst : s.feed.first.pin = none)
    (hsecond : s.feed.second.pin = none) :
    s.commitAndBegin = { s with
      view := committedView s, timeline := committedTimeline s, feed := countedFeed s.feed } := by
  have hsame : (beginning s).beginFrame = beginning s := by
    have hstill : (beginning s).feed.state = .detached := hstate
    simp only [State.beginFrame, hstill]
  have hpins : pinsReleased s = s := by
    unfold pinsReleased
    rw [hfirst, hsecond]
    rfl
  rw [commitAndBegin_eq, hsame, beginning_eq, hpins]

/-! ### The entries of a commit (R78) -/

/-- VIEW_CHANGED is due when the zoom stands at its target and the window has moved since the last one (R79). -/
theorem atRest_committed_iff (s : State) :
    (s.view.committed s.feed.mode).atRest = true ↔ (committedView s).zoom = s.view.staged.target ∧ (s.view.moved = true ∨
      ¬ ((committedView s).camera.x0 = s.view.camera.x0 ∧ (committedView s).camera.y0 = s.view.camera.y0 ∧
        (committedView s).camera.w = s.view.camera.w ∧ (committedView s).camera.h = s.view.camera.h)) := by
  have hmoved : (s.view.committed s.feed.mode).moved = true ↔ (s.view.moved = true ∨
      ¬ ((committedView s).camera.x0 = s.view.camera.x0 ∧ (committedView s).camera.y0 = s.view.camera.y0 ∧
        (committedView s).camera.w = s.view.camera.w ∧ (committedView s).camera.h = s.view.camera.h)) := by
    show (s.view.moved || !(committedView s).camera.sameRect s.view.camera) = true ↔ _
    rw [Bool.or_eq_true, Bool.not_eq_true', Window.sameRect, decide_eq_false_iff_not]
  rw [View.atRest, Bool.and_eq_true, hmoved, decide_eq_true_eq, and_comm]
  rfl

/-- The extra field of PAGE_SHOWN: 1 for PAGE and 2 for SPLIT (R78). -/
theorem code_of_ne_camera {x : Source} (h : x ≠ .camera) : x.code = if x = .page then 1 else 2 := by
  cases x with
  | camera => exact absurd rfl h
  | page => rfl
  | split => rfl

/-! ### The output frame start -/

/-- Settles O33: the frame laws carry the commit past the count, and the commit's entries are named one by one. -/
theorem commitOffersItsChanges : Obligations.CommitOffersItsChanges := by
  intro s
  obtain ⟨hpool, hview, hfeed, htimeline⟩ : s.commitAndBegin.countOutputFrame.pool = s.commitAndBegin.pool ∧
      s.commitAndBegin.countOutputFrame.view = s.commitAndBegin.view ∧
      s.commitAndBegin.countOutputFrame.feed = s.commitAndBegin.feed ∧
      s.commitAndBegin.countOutputFrame.timeline = s.commitAndBegin.timeline := by simp
  refine ⟨s.commitAndBegin.countOutputFrame, s.commitAndBegin, rfl, commitAndBegin_begun s, countOutputFrame_counted _,
    hview, htimeline, hfeed, hpool, fun hstate hfirst hsecond => ?_, ?_⟩
  · rw [commitAndBegin_detached hstate hfirst hsecond]
    rfl
  · rintro who part shown live still offers rfl hpart hshown hlive hstill rfl
    rw [hview, view_commitAndBegin] at hpart hstill
    subst hpart
    rw [htimeline, timeline_commitAndBegin, committedTimeline]
    refine congrArg (fun os => List.foldl _ s.timeline os) ?_
    unfold commitOffers
    iterate 6 refine congrArg₂ (· ++ ·) ?_ ?_
    · by_cases h : shown = true
      · obtain ⟨hsource, hchange⟩ := hshown.1 h
        rw [if_pos h, ← code_of_ne_camera hsource]
        exact if_pos ⟨hsource, hchange.imp Ne.symm Ne.symm⟩
      · rw [if_neg h]
        exact if_neg fun ⟨hsource, hchange⟩ => h (hshown.2 ⟨hsource, hchange.imp Ne.symm Ne.symm⟩)
    · exact if_congr hlive.symm rfl rfl
    · exact if_congr (by simp [View.committed]) rfl rfl
    · exact if_congr (by simp [View.committed]) rfl rfl
    · exact if_congr (by simp [View.committed]) rfl rfl
    · exact if_congr (by simp [View.committed]) rfl rfl
    · exact if_congr ((atRest_committed_iff s).trans hstill.symm) rfl rfl

/-! ### Reservations past a frame begin -/

/-- A release of a pin frees a DISCARDING record at most, so reservations stay (R13, R135). -/
theorem reserved_unpin? (s : State) (o : Option BufId) (k : SlotId) (tag : PageTag) (after : Word) :
    (s.unpin? o).store.page k = .reserved tag after ↔ s.store.page k = .reserved tag after := by
  cases o with
  | none => rfl
  | some b =>
    show (s.unpin b).store.page k = _ ↔ _
    unfold State.unpin
    dsimp only
    split
    · unfold State.pinsGone
      split
      · next j n p hfound =>
        obtain ⟨g, d, hj, -, -⟩ := Store.discardingOf_some hfound
        simp only [State.postAll_frame, State.store_withPool, State.store_withStore, Store.page_setPage]
        split
        · next hk =>
          subst hk
          simp only [State.store_withPool] at hj
          simp [hj]
        · rfl
      · rfl
    · rfl

theorem reserved_commitAndBegin (s : State) (k : SlotId) (tag : PageTag) (after : Word) :
    s.store.page k = .reserved tag after ↔ s.commitAndBegin.store.page k = .reserved tag after := by
  rw [store_commitAndBegin, pinsReleased, reserved_unpin?, reserved_unpin?]

/-- A stall is due after the commit and the frame begin where it was before. -/
theorem stallDue_commitAndBegin (s : State) : StallDue s.commitAndBegin ↔ StallDue s := by simp [StallDue]

/-- The stall flag after the count: as it was, or set by the stall event (R27, R28). -/
theorem stalled_countOutputFrame (s : State) : s.countOutputFrame.intake.stalled = true ↔
    s.intake.stalled = true ∨ s.params.stallLimit ≤ min 255 (s.intake.sinceCompletion + 1) := by
  obtain ⟨hidle, hdue⟩ := countOutputFrame_counted s
  by_cases h : StallDue s
  · obtain ⟨ht, -⟩ := hdue h
    obtain ⟨-, hlimit⟩ := h
    rw [ht]
    exact ⟨fun _ => .inr hlimit, fun _ => rfl⟩
  · rw [hidle h]
    refine ⟨.inl, fun hor => hor.elim id fun hlimit => ?_⟩
    by_contra hstalled
    exact h ⟨Bool.eq_false_iff.2 hstalled, hlimit⟩

/-- The count itself (R27). -/
theorem sinceCompletion_countOutputFrame (s : State) :
    s.countOutputFrame.intake.sinceCompletion = min 255 (s.intake.sinceCompletion + 1) := by
  obtain ⟨hidle, hdue⟩ := countOutputFrame_counted s
  by_cases h : StallDue s
  · obtain ⟨ht, -⟩ := hdue h
    rw [ht]
  · rw [hidle h]

/-- Settles O43: the count is the one of the statements, and the commit before it leaves what the count and the stall event read. -/
theorem stallEventReachesFourBlocks : Obligations.StallEventReachesFourBlocks := by
  refine ⟨fun s h => ⟨s.countOutputFrame, ?_, countOutputFrame_counted s⟩, fun s h => ?_, fun s => ?_⟩
  · show Host.Outcome.next (if _ then _ else s) = _
    rw [if_pos ((stallDue_counted s).2 h)]
  · show Host.Outcome.next (if _ then _ else s) = _
    rw [if_neg (mt (stallDue_counted s).1 h)]
  · obtain ⟨-, -, hintake, hlight, hmotion, -, -, -, hparams, -⟩ := s.commitAndBegin_frame
    refine ⟨s.commitAndBegin.countOutputFrame, s.commitAndBegin, rfl, commitAndBegin_begun s, countOutputFrame_counted _, ?_, ?_,
      reserved_commitAndBegin s, fun h => ?_⟩
    · rw [sinceCompletion_countOutputFrame, hintake]
    · rw [stalled_countOutputFrame, hintake, hparams]
    · obtain ⟨-, hdue⟩ := countOutputFrame_counted s.commitAndBegin
      obtain ⟨ht, hpage⟩ := hdue ((stallDue_commitAndBegin s).2 h)
      refine ⟨?_, ?_, ?_, fun k tag after hk => ?_, ?_⟩
      · rw [ht, hintake]
      · rw [ht, hlight]
      · rw [ht, hmotion]
      · rw [hpage, (reserved_commitAndBegin s k tag after).1 hk]
      · rw [ht]

end Sys2Proof.Statements

/-! SUPPORT. Ranges: the figures of the lesson clock, the parameters, the view unit, the light control unit and the projector feed
record by record, and what each operation on one of these records keeps of them. -/
namespace Sys2Proof.Machine

open Sys2Proof.Statements

/-! ### The records in range -/

/-- The lesson record within its ranges (R143). -/
structure Lesson.InRange (l : Lesson) : Prop where
  number : l.number ≤ 65535
  hundredths : l.hundredths ≤ 99
  seconds : l.seconds ≤ 59
  minutes : l.minutes ≤ 59
  hours : l.hours ≤ 23
  ticks : l.ticks ≤ 9
  timed : l.timed ≤ 599

/-- The parameters within their ranges, MOTION_LOW below MOTION_HIGH (R51, R187). -/
structure Params.InRange (ps : Params) : Prop where
  stallLimit : 5 ≤ ps.stallLimit ∧ ps.stallLimit ≤ 240
  clarityGain : ps.clarityGain ≤ 63
  clarityCore : ps.clarityCore ≤ 31
  exposureTarget : 16 ≤ ps.exposureTarget ∧ ps.exposureTarget ≤ 240
  exposureDeadband : ps.exposureDeadband ≤ 32
  motionHigh : 1 ≤ ps.motionHigh ∧ ps.motionHigh ≤ 255
  motionLow : ps.motionLow < ps.motionHigh
  settleFrames : 1 ≤ ps.settleFrames ∧ ps.settleFrames ≤ 30
  rankOrder : ps.rankOrder ≤ 5
  yieldDelay : ps.yieldDelay ≤ 60000
  holdFastLimit : ps.holdFastLimit ≤ 3600
  duplicateLimit : ps.duplicateLimit ≤ 64
  timedInterval : ps.timedInterval = 0 ∨ 5 ≤ ps.timedInterval ∧ ps.timedInterval ≤ 600
  exportTimeout : 10 ≤ ps.exportTimeout ∧ ps.exportTimeout ≤ 1000
  readyCount : 1 ≤ ps.readyCount ∧ ps.readyCount ≤ 256
  readyAge : 100 ≤ ps.readyAge ∧ ps.readyAge ≤ 60000

/-- The window lies inside the frame with its origin and size at multiples of 4 (R74). -/
structure Window.InFrame (w : Window) : Prop where
  columns : 0 < w.w ∧ w.x0 + w.w ≤ 3840
  lines : 0 < w.h ∧ w.y0 + w.h ≤ 2880
  fours : 4 ∣ w.x0 ∧ 4 ∣ w.y0 ∧ 4 ∣ w.w ∧ 4 ∣ w.h

/-- Both view records and the zoom in range, the camera window inside the frame (R57, R74). -/
structure View.InRange (v : View) : Prop where
  staged : v.staged.inRange
  active : v.active.inRange
  zoom : 100 ≤ v.zoom ∧ v.zoom ≤ 1600
  camera : v.camera.InFrame

/-- The light control record in its ranges (R38, R40, R43–R48). -/
structure Light.InRange (l : Light) : Prop where
  e : l.e ≤ 255
  manual : l.manual ≤ 255
  controlLine : l.controlLine ≤ 255
  setLevel : l.setLevel ≤ 10
  applied : l.applied ≤ 10
  darkRun : l.darkRun ≤ 29
  brightRun : l.brightRun ≤ 29
  period : 1250 ≤ l.period ∧ l.period ≤ 12500
  onTime : l.onTime ≤ l.period

/-- The feed record in range, and no picture outside RUNNING (R84, R85, R93, R100). -/
structure Feed.InRange (f : Feed) : Prop where
  detached_iff : f.state = .detached ↔ f.sense = false
  starting : f.starting ≤ 4
  faults : f.faults ≤ 65535
  black : f.state ≠ .running → f.first.showing = .blackState ∧ f.second.showing = .blackState

theorem State.clockOk_iff (s : State) : s.clockOk ↔ s.lesson.InRange :=
  ⟨fun ⟨h1, h2, h3, h4, h5, h6, h7⟩ => ⟨h1, h2, h3, h4, h5, h6, h7⟩, fun ⟨h1, h2, h3, h4, h5, h6, h7⟩ => ⟨h1, h2, h3, h4, h5, h6, h7⟩⟩

theorem State.paramsOk_iff (s : State) : s.paramsOk ↔ s.params.InRange :=
  ⟨fun ⟨h1, h2, h3, h4, h5, h6, h7, h8, h9, h10, h11, h12, h13, h14, h15, h16⟩ =>
      ⟨h1, h2, h3, h4, h5, h6, h7, h8, h9, h10, h11, h12, h13, h14, h15, h16⟩,
    fun ⟨h1, h2, h3, h4, h5, h6, h7, h8, h9, h10, h11, h12, h13, h14, h15, h16⟩ =>
      ⟨h1, h2, h3, h4, h5, h6, h7, h8, h9, h10, h11, h12, h13, h14, h15, h16⟩⟩

theorem State.viewOk_iff (s : State) : s.viewOk ↔ s.view.InRange :=
  ⟨fun ⟨hs, ha, hz, hc, hl, hd⟩ => ⟨hs, ha, hz, hc, hl, hd⟩, fun ⟨hs, ha, hz, hc, hl, hd⟩ => ⟨hs, ha, hz, hc, hl, hd⟩⟩

theorem State.lightOk_iff (s : State) : s.lightOk ↔ s.light.InRange :=
  ⟨fun ⟨h1, h2, h3, h4, h5, h6, h7, h8, h9⟩ => ⟨h1, h2, h3, h4, h5, h6, h7, h8, h9⟩,
    fun ⟨h1, h2, h3, h4, h5, h6, h7, h8, h9⟩ => ⟨h1, h2, h3, h4, h5, h6, h7, h8, h9⟩⟩

theorem State.feedOk_iff (s : State) : s.feedOk ↔ s.feed.InRange :=
  ⟨fun ⟨h1, h2, h3, h4⟩ => ⟨h1, h2, h3, h4⟩, fun ⟨h1, h2, h3, h4⟩ => ⟨h1, h2, h3, h4⟩⟩

/-! ### Clamped values (00_scope.md, Arithmetic) -/

theorem clampNat_eq (lo hi x : Nat) (h : lo ≤ hi) : clampNat lo hi x = max lo (min hi x) := by
  unfold clampNat
  split
  · omega
  · split <;> omega

theorem clampNat_mem (lo hi x : Nat) (h : lo ≤ hi) : lo ≤ clampNat lo hi x ∧ clampNat lo hi x ≤ hi := by
  rw [clampNat_eq lo hi x h]
  omega

theorem clampInt_mem (lo hi : Nat) (x : Int) (h : lo ≤ hi) : lo ≤ clampInt lo hi x ∧ clampInt lo hi x ≤ hi := by
  have hclamp := clampInt_eq lo hi x h
  omega

/-! ### The lesson clock -/

/-- The chain raised below 23:59:59.99 carries into the hours before 23 alone (R144). -/
theorem Lesson.InRange.centisecond {l : Lesson} (h : l.InRange) (ht : l.time < Config.lastCentisecond) :
    l.centisecond.1.InRange := by
  obtain ⟨hn, hh, hs, hm, ho, hk, hi⟩ := h
  unfold Lesson.time Config.lastCentisecond at ht
  unfold Lesson.centisecond
  split
  · exact ⟨hn, by dsimp only; omega, hs, hm, ho, hk, hi⟩
  · split
    · exact ⟨hn, by simp, by dsimp only; omega, hm, ho, hk, hi⟩
    · split
      · exact ⟨hn, by simp, by simp, by dsimp only; omega, ho, hk, hi⟩
      · exact ⟨hn, by simp, by simp, by simp, by dsimp only; omega, hk, hi⟩

theorem Lesson.InRange.tick {l : Lesson} (h : l.InRange) : l.tick.1.InRange := by
  unfold Lesson.tick
  split
  · next hc =>
    have hcount : l.state = .running ∧ l.time < Config.lastCentisecond := of_decide_eq_true hc
    split
    · have hzero : Lesson.InRange { l with ticks := 0 } := { h with ticks := Nat.zero_le 9 }
      exact hzero.centisecond hcount.2
    · exact { h with ticks := by dsimp only; omega }
  · exact h

theorem Lesson.InRange.started {l : Lesson} (_ : l.InRange) : l.started.InRange := by
  constructor <;> simp only [Lesson.started] <;> omega

/-! ### The parameters -/

theorem intervalKept_mem (v : Nat) : intervalKept v = 0 ∨ 5 ≤ intervalKept v ∧ intervalKept v ≤ 600 := by
  unfold intervalKept
  split
  · exact .inl rfl
  · exact .inr (clampNat_mem 5 600 v (by omega))

theorem enumValue_some {top value kept : Nat} (h : enumValue top value = some kept) : kept = value ∧ value ≤ top := by
  unfold enumValue at h
  split at h
  · next hle => exact ⟨(Option.some.inj h).symm, hle⟩
  · cases h

/-- A write keeps every parameter in range: each value is clamped, or of its set, and MOTION_LOW follows MOTION_HIGH (R51, R187). -/
theorem Params.InRange.write {ps after : Params} {id value kept : Nat} (h : ps.InRange)
    (hw : ps.write id value = some (after, kept)) : after.InRange := by
  unfold Params.write at hw
  split at hw
  case h_1 => cases hw; exact { h with stallLimit := clampNat_mem 5 240 value (by omega) }
  case h_2 => cases hw; exact { h with clarityGain := (clampNat_mem 0 63 value (by omega)).2 }
  case h_3 => cases hw; exact { h with clarityCore := (clampNat_mem 0 31 value (by omega)).2 }
  case h_4 => cases hw; exact { h with exposureTarget := clampNat_mem 16 240 value (by omega) }
  case h_5 => cases hw; exact { h with exposureDeadband := (clampNat_mem 0 32 value (by omega)).2 }
  case h_6 =>
    cases hw
    have hhigh := clampNat_mem 1 255 value (by omega)
    exact { h with motionHigh := hhigh, motionLow := by dsimp only; omega }
  case h_7 =>
    cases hw
    have hhigh := h.motionHigh
    exact { h with motionLow := by dsimp only [motionLowKept]; omega }
  case h_8 => cases hw; exact { h with settleFrames := clampNat_mem 1 30 value (by omega) }
  case h_9 =>
    obtain ⟨v, hv, he⟩ := Option.map_eq_some_iff.1 hw
    obtain ⟨rfl, hle⟩ := enumValue_some hv
    cases he
    exact { h with rankOrder := hle }
  case h_10 => cases hw; exact { h with yieldDelay := (clampNat_mem 0 60000 value (by omega)).2 }
  case h_11 => cases hw; exact { h with holdFastLimit := (clampNat_mem 0 3600 value (by omega)).2 }
  case h_12 =>
    obtain ⟨v, -, he⟩ := Option.map_eq_some_iff.1 hw
    cases he
    exact { h with }
  case h_13 => cases hw; exact { h with duplicateLimit := (clampNat_mem 0 64 value (by omega)).2 }
  case h_14 => cases hw; exact { h with timedInterval := intervalKept_mem value }
  case h_15 => cases hw; exact { h with exportTimeout := clampNat_mem 10 1000 value (by omega) }
  case h_16 => cases hw; exact { h with readyCount := clampNat_mem 1 256 value (by omega) }
  case h_17 => cases hw; exact { h with readyAge := clampNat_mem 100 60000 value (by omega) }
  case h_18 => cases hw

/-! ### The view unit -/

/-- A glide step stays between the zoom and its target (R71). -/
theorem glideStep_mem {current target : Nat} (glide : Nat) (hc : 100 ≤ current ∧ current ≤ 1600)
    (ht : 100 ≤ target ∧ target ≤ 1600) :
    100 ≤ glideStep current target glide ∧ glideStep current target glide ≤ 1600 := by
  unfold glideStep
  split
  · exact ht
  · split <;> omega

/-- What the size of a camera window needs of its area: a base width that no zoom in range makes too narrow, and a shape that
keeps the height inside the frame (R73). -/
abbrev AreaFits (area : Nat × Nat) : Prop :=
  (1600 ≤ baseWidth area.1 area.2 ∧ baseWidth area.1 area.2 ≤ 3840) ∧ baseWidth area.1 area.2 * area.2 ≤ 2880 * area.1 ∧
    0 < area.1 ∧ area.1 ≤ 25 * area.2

/-- The areas of the three modes fit (R72, R82). -/
theorem cameraArea_fits (mode : OutputMode) (source : Source) : AreaFits (cameraArea mode source) := by
  cases mode <;> cases source <;> decide

theorem windowWidth_mem {area : Nat × Nat} (ha : AreaFits area) {zoom : Nat} (hz : 100 ≤ zoom ∧ zoom ≤ 1600) :
    100 ≤ windowWidth area.1 area.2 zoom ∧ windowWidth area.1 area.2 zoom ≤ baseWidth area.1 area.2 := by
  obtain ⟨⟨hlow, -⟩, -⟩ := ha
  have hbelow : 100 ≤ 100 * baseWidth area.1 area.2 / zoom := by
    rw [Nat.le_div_iff_mul_le (by omega)]; omega
  have habove : 100 * baseWidth area.1 area.2 / zoom ≤ baseWidth area.1 area.2 :=
    Nat.div_le_of_le_mul (Nat.mul_le_mul_right _ hz.1)
  unfold windowWidth
  omega

theorem windowHeight_mem {area : Nat × Nat} (ha : AreaFits area) {zoom : Nat} (hz : 100 ≤ zoom ∧ zoom ≤ 1600) :
    0 < windowHeight area.1 area.2 zoom ∧ windowHeight area.1 area.2 zoom ≤ 2880 := by
  obtain ⟨hlow, hhigh⟩ := windowWidth_mem ha hz
  obtain ⟨-, hbase, hpos, hshape⟩ := ha
  have hbelow : 4 ≤ windowWidth area.1 area.2 zoom * area.2 / area.1 := by
    have hwide : 100 * area.2 ≤ windowWidth area.1 area.2 zoom * area.2 := Nat.mul_le_mul_right _ hlow
    rw [Nat.le_div_iff_mul_le hpos]; omega
  have habove : windowWidth area.1 area.2 zoom * area.2 / area.1 ≤ 2880 := by
    refine Nat.div_le_of_le_mul ?_
    calc windowWidth area.1 area.2 zoom * area.2 ≤ baseWidth area.1 area.2 * area.2 := Nat.mul_le_mul_right _ hhigh
      _ ≤ area.1 * 2880 := by omega
  unfold windowHeight
  omega

/-- A number rounded down to a multiple of 4 and clamped at a multiple of 4 is one (R74). -/
theorem four_dvd_clamped {top : Nat} (x : Int) (ht : 4 ∣ top) : 4 ∣ clampInt 0 top (roundDown4 x) := by
  have hclamp := clampInt_eq 0 top (roundDown4 x) (Nat.zero_le top)
  unfold roundDown4 at *
  omega

/-- The camera window of an area that fits lies inside the frame (R74). -/
theorem cameraWindow_inFrame {area : Nat × Nat} (ha : AreaFits area) {zoom : Nat} (cx cy : Nat)
    (hz : 100 ≤ zoom ∧ zoom ≤ 1600) : (cameraWindow area zoom cx cy).InFrame := by
  obtain ⟨hwlow, hwhigh⟩ := windowWidth_mem ha hz
  obtain ⟨hhlow, hhhigh⟩ := windowHeight_mem ha hz
  obtain ⟨⟨-, hbase⟩, -⟩ := ha
  have hw4 : 4 ∣ windowWidth area.1 area.2 zoom := Nat.dvd_mul_left ..
  have hh4 : 4 ∣ windowHeight area.1 area.2 zoom := Nat.dvd_mul_left ..
  have hx := clampInt_mem 0 (3840 - windowWidth area.1 area.2 zoom)
    (roundDown4 ((cx : Int) - ((windowWidth area.1 area.2 zoom / 2 : Nat) : Int))) (by omega)
  have hy := clampInt_mem 0 (2880 - windowHeight area.1 area.2 zoom)
    (roundDown4 ((cy : Int) - ((windowHeight area.1 area.2 zoom / 2 : Nat) : Int))) (by omega)
  exact ⟨⟨by dsimp only [cameraWindow]; omega, by dsimp only [cameraWindow]; omega⟩,
    ⟨by dsimp only [cameraWindow]; omega, by dsimp only [cameraWindow]; omega⟩,
    four_dvd_clamped _ (by omega), four_dvd_clamped _ (by omega), hw4, hh4⟩

/-- A commit keeps the view unit in range: the zoom glides, and the centre moves into the window (R70–R74). -/
theorem View.InRange.committed {v : View} (h : v.InRange) (mode : OutputMode) : (v.committed mode).InRange := by
  obtain ⟨⟨htarget, hglide, -, -⟩, -, hzoom, -⟩ := h
  have hnext := glideStep_mem v.staged.glide hzoom htarget
  have hwin := cameraWindow_inFrame (cameraArea_fits mode v.staged.source) v.staged.cx v.staged.cy hnext
  have hsettled : (v.committed mode).staged.inRange := by
    obtain ⟨⟨hw, hx⟩, ⟨hh, hy⟩, -⟩ := hwin
    exact ⟨htarget, hglide, by dsimp only [View.committed]; omega, by dsimp only [View.committed]; omega⟩
  exact ⟨hsettled, hsettled, hnext, hwin⟩

/-! ### The light control unit -/

theorem periodAfter_mem {period : Nat} (interval : Option Word) (h : 1250 ≤ period ∧ period ≤ 12500) :
    1250 ≤ periodAfter period interval ∧ periodAfter period interval ≤ 12500 := by
  unfold periodAfter
  split
  · split
    · omega
    · exact h
  · exact h

/-- At a frame start the on-time is at most the period, since the set level is at most 10 (R48). -/
theorem Light.InRange.frameStart {l : Light} (h : l.InRange) (interval : Option Word) : (l.frameStart interval).InRange := by
  have hlevel := h.setLevel
  have honTime : periodAfter l.period interval * l.setLevel / 10 ≤ periodAfter l.period interval :=
    Nat.div_le_of_le_mul (by rw [Nat.mul_comm 10]; exact Nat.mul_le_mul_left _ hlevel)
  exact { h with period := periodAfter_mem interval h.period, applied := hlevel, controlLine := h.e, onTime := honTime }

/-- Auto lamp moves the set level within 1 to 10, and a run that reaches 30 is cleared (R46). -/
theorem Light.InRange.autoLamp {l : Light} (h : l.InRange) : l.autoLamp.InRange := by
  have hlevel := h.setLevel
  unfold Light.autoLamp
  split
  · split
    · next hdark =>
      have hroom : l.e = 255 ∧ l.setLevel < 10 := by simpa [Light.tooDark] using hdark
      split
      · exact { h with darkRun := Nat.zero_le 29, brightRun := Nat.zero_le 29, setLevel := by dsimp only; omega }
      · exact { h with darkRun := by dsimp only; omega, brightRun := Nat.zero_le 29 }
    · split
      · split
        · exact { h with darkRun := Nat.zero_le 29, brightRun := Nat.zero_le 29, setLevel := by dsimp only; omega }
        · exact { h with darkRun := Nat.zero_le 29, brightRun := by dsimp only; omega }
      · exact { h with darkRun := Nat.zero_le 29, brightRun := Nat.zero_le 29 }
  · exact { h with darkRun := Nat.zero_le 29, brightRun := Nat.zero_le 29 }

theorem Light.InRange.expose {l : Light} (h : l.InRange) (r : Report) (win : Window) (params : Params) :
    (l.expose r win params).InRange :=
  { h with e := (clampInt_mem 0 255 _ (Nat.zero_le 255)).2 }

theorem Light.InRange.report {l : Light} (h : l.InRange) (r : Report) (win : Window) (params : Params) :
    (l.report r win params).InRange := by
  unfold Light.report
  split
  · exact { h with darkRun := Nat.zero_le 29, brightRun := Nat.zero_le 29 }
  · split
    · exact (h.expose r win params).autoLamp
    · exact h.autoLamp
    · exact h.autoLamp

theorem Light.InRange.stall {l : Light} (h : l.InRange) : l.stall.InRange :=
  { h with darkRun := Nat.zero_le 29, brightRun := Nat.zero_le 29 }

theorem Light.InRange.resume {l : Light} (h : l.InRange) : l.resume.InRange := by
  refine { h with e := ?_ }
  show (if l.mode = .manual then l.manual else l.e) ≤ 255
  split
  · exact h.manual
  · exact h.e

theorem Light.InRange.withMode {l : Light} (h : l.InRange) (mode : ExposureMode) : (l.withMode mode).InRange := by
  unfold Light.withMode
  split
  · exact { h with }
  · exact { h with darkRun := Nat.zero_le 29, brightRun := Nat.zero_le 29 }

theorem Light.InRange.microsecond {l : Light} (h : l.InRange) : l.microsecond.InRange := by
  unfold Light.microsecond
  split <;> exact { h with }

/-! ### The projector feed -/

/-- A feed that enters STARTING or DETACHED shows black, and is DETACHED exactly without the sense line (R84, R93). -/
theorem Feed.InRange.cutTo {f : Feed} (h : f.InRange) (state : FeedState) (sense : Bool) (mode : OutputMode) {starting : Nat}
    (hs : starting ≤ 4) (hstate : state = .detached ↔ sense = false) :
    Feed.InRange { f.cutTo state with sense := sense, mode := mode, starting := starting } :=
  { detached_iff := hstate, starting := hs, faults := h.faults, black := fun _ => ⟨rfl, rfl⟩ }

/-- The areas of a feed in RUNNING are free. -/
theorem Feed.InRange.withAreas {f : Feed} (h : f.InRange) (hr : f.state = .running) (a b : Area) :
    Feed.InRange { f with first := a, second := b } :=
  { h with black := fun hne => absurd hr hne }

/-- A read fault blackens an area that sends picture, which is one of a feed in RUNNING (R100). -/
theorem Feed.InRange.faulted {f : Feed} (h : f.InRange) {which : FeedArea} {a : Area} (place : FaultPlace)
    (ha : a = if which = .right then f.second else f.first) :
    Feed.InRange { f.setArea which (a.faulted place) with faults := saturate16 f.faults } := by
  subst ha
  have hfaults : saturate16 f.faults ≤ 65535 := Nat.min_le_left ..
  have hblack : ∀ a : Area, a.showing = .blackState → (a.faulted place).showing = .blackState := fun a ha => by
    simp [Area.faulted, ha]
  cases which with
  | full | left =>
    refine { h with faults := hfaults, black := fun hne => ?_ }
    obtain ⟨h1, h2⟩ := h.black hne
    exact ⟨hblack _ h1, h2⟩
  | right =>
    refine { h with faults := hfaults, black := fun hne => ?_ }
    obtain ⟨h1, h2⟩ := h.black hne
    exact ⟨h1, hblack _ h2⟩

end Sys2Proof.Machine

/-! SUPPORT. Kept ranges: every operation and every command keeps the figures in range and the view records naming STORED pages. -/
namespace Sys2Proof.Machine

open Sys2Proof.Statements

/-! ### What is kept -/

/-- The records the invariants read. -/
structure Ranged where
  lesson : Lesson
  params : Params
  view : View
  store : Store
  light : Light
  feed : Feed

/-- The records of a state that the invariants read. -/
def State.ranged (s : State) : Ranged :=
  { lesson := s.lesson, params := s.params, view := s.view, store := s.store, light := s.light, feed := s.feed }

/-- What is in range in `s` is in range in `t`, and the view records name STORED pages in `t` if they do in `s`. -/
structure State.Keeps (s t : State) : Prop where
  clock : s.lesson.InRange → s.params.InRange → t.lesson.InRange ∧ t.params.InRange
  view : s.view.InRange → t.view.InRange
  names : s.namesOk → t.namesOk
  light : s.light.InRange → t.light.InRange
  feed : s.feed.InRange → t.feed.InRange

theorem State.Keeps.refl (s : State) : s.Keeps s := ⟨fun hl hp => ⟨hl, hp⟩, id, id, id, id⟩

theorem State.Keeps.trans {s t u : State} (h : s.Keeps t) (k : t.Keeps u) : s.Keeps u where
  clock hl hp := by
    obtain ⟨hl', hp'⟩ := h.clock hl hp
    exact k.clock hl' hp'
  view hv := k.view (h.view hv)
  names hn := k.names (h.names hn)
  light hl := k.light (h.light hl)
  feed hf := k.feed (h.feed hf)

/-- A command that leaves these records keeps what holds of them. -/
theorem State.Keeps.of_same {s t : State} (h : t.ranged = s.ranged) : s.Keeps t := by
  have hl : t.lesson = s.lesson := congrArg Ranged.lesson h
  have hp : t.params = s.params := congrArg Ranged.params h
  have hv : t.view = s.view := congrArg Ranged.view h
  have hs : t.store = s.store := congrArg Ranged.store h
  have hg : t.light = s.light := congrArg Ranged.light h
  have hf : t.feed = s.feed := congrArg Ranged.feed h
  constructor <;> simp only [State.namesOk, hl, hp, hv, hs, hg, hf]
  · exact fun h1 h2 => ⟨h1, h2⟩
  all_goals exact id

theorem State.Keeps.before {s t u : State} (h : s.Keeps t) (hu : u.ranged = t.ranged) : s.Keeps u := h.trans (.of_same hu)

theorem State.Keeps.after {s t u : State} (h : t.Keeps u) (ht : t.ranged = s.ranged) : s.Keeps u := (State.Keeps.of_same ht).trans h

theorem State.ranged_postAll (s : State) (n : Notice) (o : Option Port) : (s.postAll n o).ranged = s.ranged := rfl

theorem State.ranged_offer (s : State) (o : Offer) : (s.offer o).ranged = s.ranged := rfl

/-! ### One record replaced -/

theorem State.keeps_withLesson (s : State) (l : Lesson) (h : s.lesson.InRange → s.params.InRange → l.InRange) :
    s.Keeps (s.withLesson l) :=
  ⟨fun hl hp => ⟨h hl hp, hp⟩, id, id, id, id⟩

theorem State.keeps_withParams (s : State) (ps : Params) (h : s.params.InRange → ps.InRange) : s.Keeps (s.withParams ps) :=
  ⟨fun hl hp => ⟨hl, h hp⟩, id, id, id, id⟩

theorem State.keeps_withLight (s : State) (l : Light) (h : s.light.InRange → l.InRange) : s.Keeps (s.withLight l) :=
  ⟨fun hl hp => ⟨hl, hp⟩, id, id, h, id⟩

theorem State.keeps_withFeed (s : State) (f : Feed) (h : s.feed.InRange → f.InRange) : s.Keeps (s.withFeed f) :=
  ⟨fun hl hp => ⟨hl, hp⟩, id, id, id, h⟩

theorem State.keeps_withView (s : State) (v : View) (h : s.view.InRange → v.InRange)
    (hn : s.namesOk → v.staged.namesStored s.store ∧ v.active.namesStored s.store) : s.Keeps (s.withView v) :=
  ⟨fun hl hp => ⟨hl, hp⟩, h, hn, id, id⟩

/-- Another staged view in range that names a STORED page where the one before did. -/
theorem State.keeps_withStaged (s : State) (v : ViewRec) (h : s.view.staged.inRange → v.inRange)
    (hn : s.view.staged.namesStored s.store → v.namesStored s.store) : s.Keeps (s.withStaged v) :=
  s.keeps_withView _ (fun hv => { hv with staged := h hv.staged }) fun ⟨hs, ha⟩ => ⟨hn hs, ha⟩

/-- Every page STORED in `st` is STORED with its serial in `after`. -/
def Store.Keeps (st after : Store) : Prop :=
  ∀ k n, (st.storedWith k n).isSome = true → (after.storedWith k n).isSome = true

theorem ViewRec.namesStored.mono {v : ViewRec} {st after : Store} (h : v.namesStored st) (hk : st.Keeps after) :
    v.namesStored after := by
  obtain ⟨hsource, hpage⟩ := h
  exact ⟨hsource, fun r hr => hk _ _ (hpage r hr)⟩

theorem State.keeps_withStore (s : State) (st : Store) (h : s.store.Keeps st) : s.Keeps (s.withStore st) :=
  ⟨fun hl hp => ⟨hl, hp⟩, id, fun ⟨hs, ha⟩ => ⟨ViewRec.namesStored.mono hs h, ViewRec.namesStored.mono ha h⟩, id, id⟩

/-! ### The page table -/

/-- A page is STORED with a serial where its record is. -/
theorem Store.storedWith_isSome (st : Store) (k : SlotId) (n : Nat) :
    (st.storedWith k n).isSome = true ↔ ∃ tag d, st.page k = .stored tag d ∧ tag.serial = n := by
  unfold Store.storedWith
  split
  · next tag d h => split <;> simp_all
  · next h => simpa using fun tag d hp => absurd hp (h tag d)

/-- Another record in slot `k` keeps the STORED pages if that slot's page, where it is STORED, stays so with its serial. -/
theorem Store.keeps_setPage {st after : Store} {k : SlotId} {r : PageRec} (hp : after.pages = (st.setPage k r).pages)
    (hr : ∀ tag d, st.page k = .stored tag d → ∃ tag' d', r = .stored tag' d' ∧ tag'.serial = tag.serial) : st.Keeps after := by
  intro j n h
  rw [Store.storedWith_isSome] at h ⊢
  obtain ⟨tag, d, hj, hn⟩ := h
  have hpage : after.page j = (st.setPage k r).page j := by simp only [Store.page, hp]
  rw [hpage, Store.page_setPage]
  split
  · next hjk =>
    subst hjk
    obtain ⟨tag', d', hr', hserial⟩ := hr tag d hj
    exact ⟨tag', d', hr', hserial.trans hn⟩
  · exact ⟨tag, d, hj, hn⟩

/-- A slot that holds no STORED page is free for another record. -/
theorem Store.keeps_setPage_unstored {st after : Store} {k : SlotId} {r : PageRec} (hp : after.pages = (st.setPage k r).pages)
    (hk : (st.page k).isStored = false) : st.Keeps after :=
  Store.keeps_setPage hp fun tag d h => by simp [h, PageRec.isStored] at hk

theorem Store.keeps_of_pages {st after : Store} (hp : after.pages = st.pages) : st.Keeps after := by
  intro j n h
  have hpage : after.page j = st.page j := by simp only [Store.page, hp]
  rw [Store.storedWith_isSome] at h ⊢
  rw [hpage]
  exact h

/-- The exported flag leaves a page STORED with its serial (R139). -/
theorem Store.keeps_markExported (st : Store) (k : SlotId) (n : Nat) : st.Keeps (st.markExported k n) := by
  unfold Store.markExported
  split
  · next tag d h =>
    refine Store.keeps_setPage rfl fun tag' d' hp => ?_
    unfold Store.storedWith at h
    rw [hp] at h
    dsimp only at h
    split at h <;> cases h
    exact ⟨tag, _, rfl, rfl⟩
  · exact Store.keeps_of_pages rfl

/-! ### The tenancy unit -/

/-- A handover sets the staged zoom target to the zoom, which is in range (R115). -/
theorem State.keeps_handover (s : State) (t : Tenancy) (c : TenancyCause) : s.Keeps (s.handover t c) := by
  have hview : s.Keeps (s.withView { s.view with staged := { s.view.staged with target := s.view.zoom } }) := by
    refine s.keeps_withView _ (fun hv => ?_) id
    obtain ⟨-, hrest⟩ := hv.staged
    exact { hv with staged := ⟨hv.zoom, hrest⟩ }
  exact hview.before rfl

theorem State.keeps_grantBest (s : State) (c : TenancyCause) (tell : Bool) : s.Keeps (s.grantBest c tell) := by
  unfold State.grantBest
  split
  · exact .refl s
  · next w rest _ =>
    refine (s.keeps_handover { holder := some w.port, holdFast := w.holdFast, singleUse := w.singleUse, idle := 0,
                               waiters := rest } c).before ?_
    dsimp only
    split <;> (try split) <;> rfl

theorem State.keeps_evaluate (n : Nat) (s : State) : s.Keeps (State.evaluate n s) := by
  induction n generalizing s with
  | zero => exact .refl s
  | succ n ih =>
    unfold State.evaluate
    split
    · exact (s.keeps_grantBest _ _).trans (ih _)
    · exact .refl s

theorem State.keeps_settle (s : State) : s.Keeps s.settle := State.keeps_evaluate _ s

theorem State.keeps_passOn (s : State) (c : TenancyCause) : s.Keeps (s.passOn c) := by
  unfold State.passOn
  split
  · exact s.keeps_handover _ c
  · exact (s.keeps_grantBest c false).trans (State.keeps_settle _)

theorem State.keeps_portReset (s : State) (p : Port) (k : Option (Fin 4)) : s.Keeps (s.portReset p k) := by
  unfold State.portReset State.tenancyReset
  split
  · exact .after (State.keeps_passOn _ _) rfl
  · exact .of_same rfl

theorem State.keeps_singleUseStep (s : State) : s.Keeps s.singleUseStep := by
  unfold State.singleUseStep
  split
  · exact (s.keeps_grantBest _ _).trans (State.keeps_settle _)
  · exact .refl s

theorem State.keeps_passTenancy {s t : State} {p : Port} (h : s.passTenancy p = some t) : s.Keeps t := by
  unfold State.passTenancy at h
  split at h
  · cases h; exact s.keeps_handover _ _
  · split at h <;> cases h
    exact .of_same rfl

theorem State.keeps_tenancyTick (s : State) : s.Keeps s.tenancyTick := .after (State.keeps_settle _) rfl

theorem State.keeps_claim (s : State) (p : Port) (q : Request) : s.Keeps (s.claim p q).state := by
  unfold State.claim
  split
  · exact .refl s
  · dsimp only
    split
    · exact s.keeps_handover _ _
    · split
      · exact .after (State.keeps_settle _) rfl
      · split
        · exact (s.keeps_handover (s.tenancy.claimed p (decide (argByte q.args 1 = 1)) (decide (argByte q.args 2 = 1)))
          .preempted).trans (.after (State.keeps_settle _) rfl)
        · split
          · exact .after (State.keeps_settle _) rfl
          · exact .refl s

theorem State.keeps_release (s : State) (p : Port) : s.Keeps (s.release p).state := by
  simp only [State.release, Answer.ok]
  split
  · exact s.keeps_passOn _
  · exact .refl s

/-! ### Carrying out a request -/

theorem State.keeps_serve (s : State) (p : Port) (meant : Request → Bool) (body : Request → State → Answer)
    (h : ∀ q, s.Keeps (body q s).state) : s.Keeps (s.serve p meant body) := by
  unfold State.serve
  split
  · exact .refl s
  · split
    · split
      · exact (h _).before rfl
      · exact .of_same rfl
    · exact .refl s

theorem keeps_serveOpen {code : Nat} {p : Port} {body : Request → State → Answer} {s t : State}
    (ht : serveOpen code p body s = .next t) (h : ∀ q, s.Keeps (body q s).state) : s.Keeps t := by
  cases ht
  exact s.keeps_serve p _ body h

theorem keeps_serveGated {code : Nat} {p : Port} {body : Request → State → Answer} {s t : State}
    (ht : serveGated code p body s = .next t) (h : ∀ q (u : State), u.Keeps (body q u).state) : s.Keeps t := by
  cases ht
  refine s.keeps_serve p _ _ fun q => ?_
  unfold State.gated
  split
  · exact .refl s
  · next u hu => exact ((State.keeps_passTenancy hu).trans (h q u)).trans (State.keeps_singleUseStep _)

/-- A command that does something on an occasion only. -/
theorem State.keeps_ite {s t u : State} {c : Prop} [Decidable c] (h : (.next (if c then t else s) : Host.Outcome State Fault Refusal) = .next u)
    (ht : c → s.Keeps t) : s.Keeps u := by
  cases h
  split
  · next hc => exact ht hc
  · exact .refl s

/-! ### Pins and the page channels -/

/-- A page freed with its last pin was DISCARDING (R135). -/
theorem State.keeps_pinsGone (s : State) (b : BufId) : s.Keeps (s.pinsGone b) := by
  unfold State.pinsGone
  split
  · next k n p h =>
    obtain ⟨tag, data, hp, -, -⟩ := Store.discardingOf_some h
    exact (s.keeps_withStore _ (Store.keeps_setPage_unstored rfl (by rw [hp]; rfl))).before rfl
  · exact .refl s

theorem State.keeps_unpin (s : State) (b : BufId) : s.Keeps (s.unpin b) := by
  unfold State.unpin
  dsimp only
  split
  · exact .after (State.keeps_pinsGone _ b) rfl
  · exact .of_same rfl

theorem State.keeps_unpin? (s : State) (o : Option BufId) : s.Keeps (s.unpin? o) := by
  cases o with
  | none => exact .refl s
  | some b => exact s.keeps_unpin b

/-- A channel's record replaced, and then a pin released (R12, R168). -/
theorem State.keeps_setChan_unpin (s : State) (c : Channel) (x : Chan) (b : BufId) : s.Keeps ((s.setChan c x).unpin b) :=
  .after (State.keeps_unpin _ b) rfl

theorem State.keeps_haltChannel (s : State) (c : Channel) : s.Keeps (s.haltChannel c) := by
  unfold State.haltChannel
  split
  · exact s.keeps_setChan_unpin c _ _
  · exact .refl s

theorem State.keeps_halt (s : State) (cause : HaltCause) : s.Keeps (s.halt cause) := by
  unfold State.halt
  split
  · exact .refl s
  · unfold State.haltNow
    have hchannels := fun u : State => (u.keeps_haltChannel .ex0).trans (State.keeps_haltChannel _ .ex1)
    have hdown := hchannels (s.withLink { s.link with state := .halted cause, halts := saturate16 s.link.halts, owed := [] })
    exact (State.Keeps.after (s := s) hdown rfl).before rfl

theorem State.keeps_channelDone (s : State) (c : Channel) (d : ChanData) : s.Keeps (s.channelDone c d) := by
  have hdone : ∀ m : State, m.Keeps (((m.setChan c (.used .done { d with sent := d.sent + 1 })).unpin d.buffer).postAll
      (.exportDone c d.slot d.serial d.scope d.total d.requester) none) :=
    fun m => (m.keeps_setChan_unpin c _ d.buffer).before (State.ranged_postAll _ _ _)
  unfold State.channelDone
  dsimp only
  split
  · exact (s.keeps_withStore _ (s.store.keeps_markExported _ _)).trans (hdone _)
  · exact hdone s

theorem State.keeps_pageDelivered (s : State) (c : Channel) : s.Keeps (s.pageDelivered c) := by
  unfold State.pageDelivered
  split
  · split
    · exact s.keeps_channelDone c _
    · exact .of_same rfl
  · split
    · exact s.keeps_channelDone c _
    · exact s.keeps_setChan_unpin c _ _
  · exact .refl s

theorem State.keeps_changeLesson (s : State) (l : Lesson) (c : LessonCause) (h : s.lesson.InRange → l.InRange) :
    s.Keeps (s.changeLesson l c) :=
  (s.keeps_withLesson l fun hl _ => h hl).before rfl

theorem State.keeps_timelineDelivered (s : State) : s.Keeps s.timelineDelivered := by
  unfold State.timelineDelivered
  dsimp only
  split
  · exact .after (State.keeps_changeLesson _ _ _ fun hl => { hl with }) rfl
  · exact .of_same rfl

theorem State.keeps_lastByte (s : State) : s.Keeps s.lastByte := by
  unfold State.lastByte
  split
  · unfold State.delivered
    split
    · exact .after (State.keeps_pageDelivered _ _) rfl
    · exact .after (State.keeps_timelineDelivered _) rfl
  · exact .refl s

theorem State.keeps_clockTransfer (s : State) (n : Nat) : s.Keeps (s.clockTransfer n) := by
  unfold State.clockTransfer
  split
  · split
    · exact .refl s
    · split
      · exact s.keeps_lastByte
      · exact .of_same rfl
  · exact .of_same rfl
  · exact .refl s

theorem State.keeps_closeTransfer (s : State) : s.Keeps s.closeTransfer := by
  unfold State.closeTransfer
  dsimp only
  split
  · exact .after (State.keeps_halt _ _) rfl
  · exact .of_same rfl

theorem State.keeps_linkTick (s : State) : s.Keeps s.linkTick := by
  unfold State.linkTick
  split
  · dsimp only
    split
    · exact .after (State.keeps_halt _ _) rfl
    · exact .of_same rfl
  · exact .refl s

/-- The opening of a transfer changes the timeline and the link alone. -/
theorem State.keeps_openTransfer {s t : State} (h : s.openTransfer = .next t) : s.Keeps t := by
  unfold State.openTransfer at h
  split at h
  · unfold State.pullReady at h
    split at h
    · cases h; exact .of_same rfl
    · split at h
      · cases h; exact .of_same rfl
      · split at h
        · unfold State.sendPage at h
          dsimp only at h
          split at h
          · cases h; exact .of_same rfl
          · split at h <;> cases h
            exact .of_same rfl
        · cases h; exact .of_same rfl
  · cases h; exact .of_same rfl
  · cases h; exact .of_same rfl

theorem State.keeps_exportPage (s : State) (p : Port) (q : Request) : s.Keeps (s.exportPage p q).state := by
  unfold State.exportPage
  split
  · split
    · exact .refl s
    · unfold State.startExport
      split
      · exact .refl s
      · split
        · exact .refl s
        · exact .of_same rfl
  · exact .refl s

theorem State.keeps_exportStop (s : State) (q : Request) : s.Keeps (s.exportStop q).state := by
  unfold State.exportStop
  split
  · exact .refl s
  · next c _ =>
    unfold State.stopChannel
    split
    · split
      · exact .of_same rfl
      · exact s.keeps_setChan_unpin c _ _
    all_goals exact .refl s

theorem State.keeps_continueChannel (s : State) (c : Channel) (d : ChanData) : s.Keeps (s.continueChannel c d).state := by
  unfold State.continueChannel
  split <;> exact .of_same rfl

theorem State.keeps_exportContinue (s : State) (q : Request) : s.Keeps (s.exportContinue q).state := by
  unfold State.exportContinue
  split
  · exact .refl s
  · split
    · exact s.keeps_continueChannel _ _
    · exact s.keeps_continueChannel _ _
    · exact .refl s

theorem State.keeps_exportResume (s : State) : s.Keeps s.exportResume.state := by
  unfold State.exportResume
  split
  · split
    · exact .of_same rfl
    · exact .refl s
  · exact .refl s

/-! ### The view unit -/

theorem State.keeps_zoomTo (s : State) (p : Port) (q : Request) : s.Keeps (s.zoomTo p q).state :=
  s.keeps_withStaged _ (fun ⟨_, _, hc⟩ => ⟨clampNat_mem 100 1600 _ (by omega), (clampNat_mem 0 100 _ (by omega)).2, hc⟩) id

theorem State.keeps_zoomBy (s : State) (p : Port) (q : Request) : s.Keeps (s.zoomBy p q).state :=
  s.keeps_withStaged _ (fun ⟨_, _, hc⟩ => ⟨clampInt_mem 100 1600 _ (by omega), (clampNat_mem 0 100 _ (by omega)).2, hc⟩) id

theorem State.keeps_panTo (s : State) (p : Port) (q : Request) : s.Keeps (s.panTo p q).state :=
  s.keeps_withStaged _
    (fun ⟨ht, hg, _⟩ => ⟨ht, hg, (clampNat_mem 0 3839 _ (by omega)).2, (clampNat_mem 0 2879 _ (by omega)).2⟩) id

theorem State.keeps_panBy (s : State) (p : Port) (q : Request) : s.Keeps (s.panBy p q).state :=
  s.keeps_withStaged _
    (fun ⟨ht, hg, _⟩ => ⟨ht, hg, (clampInt_mem 0 3839 _ (by omega)).2, (clampInt_mem 0 2879 _ (by omega)).2⟩) id

/-- SET_SOURCE to a page that is STORED (R65). -/
theorem State.keeps_sourcePage (s : State) (p : Port) {source : Source} (hs : source ≠ .camera) (slot serial : Nat) :
    s.Keeps (s.sourcePage p source slot serial).state := by
  unfold State.sourcePage
  split
  · exact .refl s
  · split
    · exact .refl s
    · next k _ x hx =>
      refine s.keeps_withStaged _ id fun _ => ⟨by simp [hs], fun r hr => ?_⟩
      cases hr
      simp [hx]

theorem State.keeps_setSource (s : State) (p : Port) (q : Request) : s.Keeps (s.setSource p q).state := by
  unfold State.setSource
  split
  · exact .refl s
  · exact s.keeps_withStaged _ id fun _ => ⟨by simp, fun r hr => by cases hr⟩
  · exact s.keeps_sourcePage p (by decide) _ _
  · exact s.keeps_sourcePage p (by decide) _ _

theorem State.keeps_freeze (s : State) (p : Port) : s.Keeps (s.freeze p).state := by
  unfold State.freeze
  split
  · exact s.keeps_withStaged _ id id
  · split
    · exact .after (State.keeps_withView _ _ (fun hv => { hv with }) id) rfl
    · exact .refl s
    · exact .refl s

theorem State.keeps_unfreeze (s : State) (p : Port) : s.Keeps (s.unfreeze p).state := by
  unfold State.unfreeze
  split
  · have hpool : s.releaseHeld.ranged = s.ranged := by simp [State.ranged]
    have hview : s.releaseHeld.view = s.view := by simp
    refine State.Keeps.after (State.keeps_withView _ _ (fun hv => ?_) fun hn => ?_) hpool
    · rw [hview] at hv; exact { hv with }
    · rw [State.namesOk, hview] at hn; exact hn
  · exact s.keeps_withStaged _ id id

theorem State.ranged_offerAll (s : State) (os : List Offer) : (s.offerAll os).ranged = s.ranged := by simp [State.ranged]

theorem State.keeps_commit (s : State) : s.Keeps s.commit := by
  unfold State.commit
  have hview : s.Keeps (s.withView { s.view.committed s.feed.mode with
      moved := (s.view.committed s.feed.mode).moved && !(s.view.committed s.feed.mode).atRest }) :=
    s.keeps_withView _ (fun hv => { hv.committed s.feed.mode with }) fun ⟨hs, _⟩ => ⟨hs, hs⟩
  exact hview.before (State.ranged_offerAll _ _)

/-! ### The projector feed -/

theorem State.keeps_releaseFeed (s : State) : s.Keeps s.releaseFeed := by
  have hpins := (s.keeps_unpin? s.feed.first.pin).trans (State.keeps_unpin? _ s.feed.second.pin)
  exact hpins.trans (State.keeps_withFeed _ _ fun hf => { hf with black := fun _ => ⟨rfl, rfl⟩ })

theorem State.keeps_pin? (s : State) (o : Option BufId) : s.Keeps (s.pin? o) := .of_same (by simp [State.ranged])

/-- A frame that begins in RUNNING sets the areas (R91, R93). -/
theorem State.keeps_beginRunning (s : State) (h : s.feed.state = .running) : s.Keeps s.beginRunning := by
  unfold State.beginRunning
  split
  · exact s.keeps_withFeed _ fun hf => hf.withAreas h _ _
  · refine ((s.keeps_pin? _).trans (State.keeps_pin? _ _)).trans (State.keeps_withFeed _ _ fun hf => hf.withAreas ?_ _ _)
    simpa using h

theorem State.keeps_beginFrame (s : State) : s.Keeps s.beginFrame := by
  unfold State.beginFrame
  split
  · exact .refl s
  · next hstate =>
    split
    · exact s.keeps_withFeed _ fun hf => { hf with starting := by dsimp only; omega }
    · have hstart : s.Keeps s.startFeed := by
        refine (s.keeps_withFeed { s.feed with state := .running } fun hf => ?_).before rfl
        have hiff := hf.detached_iff
        rw [hstate] at hiff
        exact { hf with detached_iff := by simpa using hiff, black := fun hne => absurd rfl hne }
      exact hstart.trans (State.keeps_beginRunning _ rfl)
  · next hstate => exact s.keeps_beginRunning hstate

theorem State.keeps_commitAndBegin (s : State) : s.Keeps s.commitAndBegin :=
  s.keeps_commit.trans ((State.keeps_releaseFeed _).trans (State.keeps_beginFrame _))

theorem State.keeps_enterFeed (s : State) (f : Feed) (c : FeedCause) (h : s.feed.InRange → f.InRange) : s.Keeps (s.enterFeed f c) :=
  (s.keeps_withFeed f h).before rfl

theorem State.keeps_setOutputMode (s : State) (q : Request) : s.Keeps (s.setOutputMode q).state := by
  unfold State.setOutputMode
  split
  · exact .refl s
  · split
    · exact .refl s
    · split
      · exact s.keeps_withFeed _ fun hf => { hf with }
      · next hstate =>
        refine s.keeps_enterFeed _ _ fun hf => hf.cutTo .starting s.feed.sense _ (Nat.zero_le 4) ?_
        exact iff_of_false (by simp) fun h => hstate (hf.detached_iff.2 h)

/-! ### The intake unit and the units it reports to -/

theorem State.keeps_writeLine {s t : State} {y : Nat} {bytes : List Byte} {after : Intake} (h : s.writeLine y bytes after = .next t) :
    s.Keeps t := by
  unfold State.writeLine at h
  split at h
  · cases h; exact .of_same rfl
  · split at h <;> cases h
    exact .of_same rfl

theorem State.keeps_sensorLineEnd {s t : State} (h : execSensorLineEnd s = .next t) : s.Keeps t := by
  unfold execSensorLineEnd at h
  split at h
  · cases h; exact .refl s
  · split at h
    · split at h
      · cases h; exact .of_same rfl
      · exact State.keeps_writeLine h
    · cases h; exact .of_same rfl

theorem State.keeps_sensorFrameEnd {s t : State} (h : execSensorFrameEnd s = .next t) : s.Keeps t := by
  unfold execSensorFrameEnd at h
  split at h
  · cases h; exact .refl s
  · split at h
    · exact State.keeps_writeLine h
    · cases h; exact .of_same rfl

theorem State.keeps_frameStart (s : State) : s.Keeps s.frameStart := by
  unfold State.frameStart
  refine (s.keeps_withLight (s.light.frameStart (s.intake.ended.interval s.timer)) fun hl => hl.frameStart _).before ?_
  dsimp only [State.askWriteBuffer]
  split <;> rfl

theorem State.keeps_complete (s : State) (b : BufId) : s.Keeps (s.complete b) := by
  have hlift : ∀ u : State, u.Keeps u.liftStall := by
    intro u
    unfold State.liftStall
    split
    · exact (u.keeps_withLight _ fun hl => hl.resume).before rfl
    · exact .refl u
  have hsend : ∀ (u : State) (r : Report) (e : Bool), u.Keeps (u.sendReport r e) := fun u r e =>
    (u.keeps_withLight { u.light with reports := u.light.reports ++ [r] } fun hl => { hl with }).before rfl
  have hboth := (hlift (s.withPool (s.pool.markComplete b s.intake.info))).trans
    (hsend _ { buffer := b, frame := s.intake.info.frame, thumb := s.intake.info.thumb } s.intake.stalled)
  exact .after (hboth.before rfl) rfl

theorem State.keeps_foldl {α : Type} (f : State → α → State) (h : ∀ s a, State.Keeps s (f s a)) (l : List α) (s : State) :
    s.Keeps (l.foldl f s) := by
  induction l generalizing s with
  | nil => exact .refl s
  | cons a l ih => exact (h s a).trans (ih _)

theorem State.keeps_failReservation (s : State) (k : SlotId) : s.Keeps (s.failReservation k) := by
  unfold State.failReservation
  split
  · next tag after h => exact (s.keeps_withStore _ (Store.keeps_setPage_unstored rfl (by rw [h]; rfl))).before rfl
  · exact .refl s

theorem State.keeps_stall (s : State) : s.Keeps s.stall := by
  have hlight : s.Keeps ((((s.withIntake s.intake.stall).postAll (.intakeStalled s.intake.lastCompleted s.intake.completed)
      none).withLight s.light.stall).withMotion s.motion.stall) :=
    (s.keeps_withLight s.light.stall fun hl => hl.stall).before rfl
  exact hlight.trans (State.keeps_foldl _ State.keeps_failReservation _ _)

theorem State.keeps_countOutputFrame (s : State) : s.Keeps s.countOutputFrame := by
  unfold State.countOutputFrame
  dsimp only
  split
  · exact .after (State.keeps_stall _) rfl
  · exact .of_same rfl

theorem State.keeps_lightReport (s : State) : s.Keeps s.lightReport := by
  unfold State.lightReport
  split
  · exact .refl s
  · next r _ _ => exact s.keeps_withLight _ fun hl => { hl.report r s.view.camera s.params with }

theorem State.keeps_motionReport (s : State) : s.Keeps s.motionReport := by
  unfold State.motionReport
  split
  · exact .refl s
  · next r _ _ =>
    have hpassed := s.keeps_withStore { s.store with
      reports := s.store.reports ++ [{ report := r.report, fire := (s.motion.report r s.params).2 }] } (Store.keeps_of_pages rfl)
    exact hpassed.before rfl

theorem State.keeps_setExposure (s : State) (q : Request) : s.Keeps (s.setExposure q).state := by
  unfold State.setExposure
  split
  · exact .refl s
  · have hvalue := (clampInt_mem 0 255 (argS16 q.args 1) (Nat.zero_le 255)).2
    refine s.keeps_withLight _ fun hl => { hl.withMode .manual with manual := hvalue, e := ?_ }
    dsimp only
    split
    · exact hl.e
    · exact hvalue
  · exact s.keeps_withLight _ fun hl => hl.withMode _

theorem State.keeps_setLamp (s : State) (q : Request) : s.Keeps (s.setLamp q).state := by
  unfold State.setLamp
  split
  · exact .refl s
  · have hlevel := (clampNat_mem 0 10 (argByte q.args 0) (Nat.zero_le 10)).2
    dsimp only
    split
    · exact .refl s
    · exact s.keeps_withLight _ fun hl => { hl with setLevel := hlevel, darkRun := Nat.zero_le 29, brightRun := Nat.zero_le 29 }

/-! ### The page store -/

/-- An EMPTY record is not STORED. -/
theorem Store.lowestEmpty_unstored {st : Store} {k : SlotId} (h : st.lowestEmpty = some k) : (st.page k).isStored = false := by
  rw [Store.lowestEmpty_page h]; rfl

/-- A page stored in a slot that held none (R125). -/
theorem State.keeps_storing (s : State) {k : SlotId} (tag : PageTag) (b : BufId) (info : FrameMeta) (leftOut : Option Port)
    (hk : (s.store.page k).isStored = false) : s.Keeps (s.storing k tag b info leftOut).state :=
  (s.keeps_withStore (s.store.stored k tag (s.pageData b info)) (Store.keeps_setPage_unstored rfl hk)).before rfl

theorem State.keeps_storePage (s : State) {k : SlotId} (tag : PageTag) (b : BufId) (info : FrameMeta) (leftOut : Option Port)
    (hk : (s.store.page k).isStored = false) : s.Keeps (s.storePage k tag b info leftOut) :=
  (s.keeps_storing tag b info leftOut hk).before (State.ranged_offer _ _)

theorem State.keeps_drawn (s : State) (pool : Pool) (serial : Nat) : s.Keeps ((s.withPool pool).drawn serial) :=
  (s.keeps_withStore { s.store with lastSerial := serial } (Store.keeps_of_pages rfl)).before rfl

theorem State.keeps_storingAuto (s : State) {k : SlotId} (trigger : Trigger) (b : BufId) (info : FrameMeta) (pool : Pool)
    (hk : s.store.lowestEmpty = some k) : s.Keeps (s.storingAuto k trigger b info pool).state :=
  (s.keeps_drawn pool s.store.nextSerial).trans (State.keeps_storing _ _ b info none (Store.lowestEmpty_unstored hk))

theorem State.keeps_capturingTimed (s : State) : s.Keeps s.capturingTimed.state := by
  unfold State.capturingTimed
  split
  · exact .of_same rfl
  · next k hk =>
    split
    · exact s.keeps_storingAuto _ _ _ _ hk
    · exact .of_same rfl
    · exact .of_same rfl

theorem State.keeps_capturingTurn (s : State) (r : Report) : s.Keeps (s.capturingTurn r).state := by
  unfold State.capturingTurn
  split
  · exact .of_same rfl
  · split
    · exact .of_same rfl
    · next k hk =>
      split
      · exact s.keeps_storingAuto _ _ _ _ hk
      · exact .of_same rfl
      · exact .of_same rfl

theorem State.keeps_pageTurn (s : State) (r : Report) : s.Keeps (s.pageTurn r) :=
  (s.keeps_capturingTurn r).before (State.ranged_offer _ _)

theorem State.keeps_fill (s : State) (r : Report) (k : SlotId) : s.Keeps (s.fill r k) := by
  unfold State.fill
  split
  · next tag after hk =>
    split
    · split
      · next b info pool _ =>
        have hfree : ((s.withPool pool).store.page k).isStored = false := by rw [State.store_withPool, hk]; rfl
        exact .after (State.keeps_storePage _ tag b info none hfree) rfl
      · exact .refl s
    · exact .refl s
  · exact .refl s

theorem State.keeps_storeNextReport (s : State) : s.Keeps s.storeNextReport := by
  unfold State.storeNextReport
  split
  · exact .refl s
  · next r rest _ =>
    have htaken := s.keeps_withStore { s.store with reports := rest } (Store.keeps_of_pages rfl)
    have hfill : ∀ u : State, u.Keeps (u.fillAll r.report) := fun u =>
      State.keeps_foldl _ (fun t k => t.keeps_fill r.report k) _ u
    refine htaken.trans ?_
    unfold State.storeReport
    dsimp only
    split
    · exact (hfill _).trans (State.keeps_pageTurn _ _)
    · exact hfill _

theorem State.keeps_capture (s : State) (p : Port) (q : Request) : s.Keeps (s.capture p q).state := by
  unfold State.capture
  dsimp only
  split
  · exact .refl s
  · split
    · exact .refl s
    · split
      · exact .refl s
      · next k hk =>
        split
        · unfold State.captureNow
          split
          · next b info pool _ =>
            exact (s.keeps_drawn pool s.store.nextSerial).trans
              (State.keeps_storePage _ _ b info (some p) (Store.lowestEmpty_unstored hk))
          · exact .refl s
          · exact .refl s
        · exact s.keeps_withStore _ (Store.keeps_setPage_unstored rfl (Store.lowestEmpty_unstored hk))

/-- A view record that names STORED pages, but not that of slot `k`, keeps its name once that record is replaced (R59, R134). -/
theorem ViewRec.namesStored.setPage {v : ViewRec} {st after : Store} {k : SlotId} {tag : PageTag} {d : PageData} {r : PageRec}
    (h : v.namesStored st) (hk : st.page k = .stored tag d) (hv : v.names { slot := k, serial := tag.serial } = false)
    (hp : after.pages = (st.setPage k r).pages) : v.namesStored after := by
  obtain ⟨hsource, hpage⟩ := h
  refine ⟨hsource, fun x hx => ?_⟩
  have hstored := hpage x hx
  rw [Store.storedWith_isSome] at hstored ⊢
  obtain ⟨tag', d', hx', hserial⟩ := hstored
  have hother : x.slot ≠ k := by
    intro hslot
    rw [hslot, hk] at hx'
    cases hx'
    have hname : v.page = some { slot := k, serial := tag.serial } := by rw [← hslot, hserial]; exact hx
    have hcamera : v.source ≠ .camera := fun hc => by simp [hsource.1 hc] at hname
    simp [ViewRec.names, hname, hcamera] at hv
  have hafter : after.page x.slot = (st.setPage k r).page x.slot := by simp only [Store.page, hp]
  rw [hafter, Store.page_setPage, if_neg hother]
  exact ⟨tag', d', hx', hserial⟩

/-- A page the view unit does not name can be discarded (R59, R134). -/
theorem State.keeps_discarded (s : State) {k : SlotId} {tag : PageTag} {d : PageData} {r : PageRec} {st : Store}
    (hk : s.store.page k = .stored tag d) (hv : s.view.named { slot := k, serial := tag.serial } = false)
    (hp : st.pages = (s.store.setPage k r).pages) : s.Keeps (s.withStore st) := by
  obtain ⟨hstaged, hactive⟩ := Bool.or_eq_false_iff.1 hv
  exact ⟨fun hl hp => ⟨hl, hp⟩, id,
    fun ⟨hs, ha⟩ => ⟨ViewRec.namesStored.setPage hs hk hstaged hp, ViewRec.namesStored.setPage ha hk hactive hp⟩, id, id⟩

theorem State.keeps_discard (s : State) (p : Port) (q : Request) : s.Keeps (s.discard p q).state := by
  unfold State.discard
  split
  · exact .refl s
  · next k _ =>
    split
    · next tag after hk =>
      split
      · exact (s.keeps_withStore _ (Store.keeps_setPage_unstored rfl (by rw [hk]; rfl))).before rfl
      · exact .refl s
    · next tag d hk =>
      split
      · unfold State.discardStored
        split
        · exact .refl s
        · next hv =>
          have hunnamed := Bool.eq_false_iff.2 hv
          split
          · exact (s.keeps_discarded (st := (s.store.setPage k (.discarding tag d p)).unlisted k) hk hunnamed rfl).before rfl
          · exact (s.keeps_discarded (st := (s.store.setPage k .empty).unlisted k) hk hunnamed rfl).before rfl
      · exact .refl s
    · exact .refl s

/-- A label leaves a page STORED with its serial (R136). -/
theorem State.keeps_setLabel (s : State) (q : Request) : s.Keeps (s.setLabel q).state := by
  unfold State.setLabel
  dsimp only
  split
  · exact .refl s
  · split
    · exact .refl s
    · split
      · next hk =>
        split
        · exact s.keeps_withStore _ (Store.keeps_setPage_unstored rfl (by rw [hk]; rfl))
        · exact .refl s
      · next tag d hk =>
        split
        · refine s.keeps_withStore _ (Store.keeps_setPage rfl fun tag' d' h => ?_)
          rw [hk] at h
          cases h
          exact ⟨_, _, rfl, rfl⟩
        · exact .refl s
      · exact .refl s

/-! ### The lesson clock -/

theorem State.keeps_lessonStart (s : State) (p : Port) : s.Keeps (s.lessonStart p).state := by
  unfold State.lessonStart
  split
  · exact (s.keeps_changeLesson s.lesson.started .start fun hl => hl.started).before rfl
  · exact .refl s

theorem State.keeps_lessonPause (s : State) (p : Port) : s.Keeps (s.lessonPause p).state := by
  unfold State.lessonPause
  split
  · exact (s.keeps_changeLesson { s.lesson with state := .paused } .pause fun hl => { hl with }).before rfl
  · exact .refl s

theorem State.keeps_lessonResume (s : State) (p : Port) : s.Keeps (s.lessonResume p).state := by
  unfold State.lessonResume
  split
  · exact (s.keeps_changeLesson { s.lesson with state := .running } .resume fun hl => { hl with }).before rfl
  · exact .refl s

theorem State.keeps_lessonEnd (s : State) (p : Port) : s.Keeps (s.lessonEnd p).state := by
  have hend : s.Keeps (s.endLesson p).state :=
    (s.keeps_changeLesson { s.lesson with state := .closing } .end_ fun hl => { hl with }).before rfl
  unfold State.lessonEnd
  split
  · exact hend
  · exact hend
  · exact .refl s

theorem State.keeps_lessonClear (s : State) : s.Keeps s.lessonClear.state := by
  unfold State.lessonClear
  split
  · exact .after (State.keeps_changeLesson _ _ _ fun hl => { hl with }) rfl
  · exact .refl s

theorem State.keeps_meetPause (s : State) (o : Option Port) : s.Keeps (s.meetPause o) := by
  unfold State.meetPause
  split
  · exact s.keeps_serve _ _ _ fun q => s.keeps_lessonPause _
  · exact .refl s

/-- The timed counter expires at an interval of at most 600, so it stays below it (R151). -/
theorem State.keeps_lessonSecond (s : State) (o : Option Port) : s.Keeps (s.lessonSecond o) := by
  unfold State.lessonSecond
  split
  · exact .refl s
  · next hset =>
    split
    · refine .trans (s.keeps_withLesson { s.lesson with timed := 0 } fun hl _ => { hl with timed := Nat.zero_le 599 }) ?_
      exact ((State.keeps_capturingTimed _).trans (State.keeps_meetPause _ o)).before rfl
    · next hdue =>
      refine s.keeps_withLesson _ fun hl hp => { hl with timed := ?_ }
      have hbelow : ¬ (s.params.timedInterval ≠ 0 ∧ s.params.timedInterval ≤ s.lesson.timed + 1) := by
        simpa [State.expiryDue] using hdue
      have hinterval := hp.timedInterval
      dsimp only
      omega

theorem State.keeps_clockTick (s : State) (o : Option Port) : s.Keeps (s.clockTick o) := by
  have htick := s.keeps_withLesson s.lesson.tick.1 fun hl _ => hl.tick
  unfold State.clockTick
  dsimp only
  split
  · exact htick.trans (State.keeps_lessonSecond _ o)
  · exact htick

/-! ### The parameters -/

theorem State.keeps_ownerActs (s : State) (id kept : Nat) : s.Keeps (s.ownerActs id kept) := by
  unfold State.ownerActs
  split
  · exact .after (State.keeps_settle _) rfl
  · exact s.keeps_settle
  · exact s.keeps_settle
  · split
    · exact s.keeps_withLesson _ fun hl _ => { hl with timed := Nat.zero_le 599 }
    · exact .refl s
  · exact .refl s

theorem State.keeps_setParam (s : State) (p : Port) (q : Request) : s.Keeps (s.setParam p q).state := by
  unfold State.setParam
  dsimp only
  split
  · split <;> exact .of_same rfl
  · split
    · next hw => exact (s.keeps_withParams _ fun hp => hp.write hw).trans (State.keeps_ownerActs _ _ _)
    · exact .refl s

end Sys2Proof.Machine

/-! SUPPORT. Ranges kept: every command and every step, and the two statements that follow. -/
namespace Sys2Proof.Machine

open Sys2Proof.Statements

/-! ### Requests that change no record -/

theorem State.pageRead_state (s : State) (q : Request) : (s.pageRead q).state = s := by
  unfold State.pageRead
  split <;> rfl

theorem State.thumbRead_state (s : State) (q : Request) : (s.thumbRead q).state = s := by
  unfold State.thumbRead State.liveThumb
  dsimp only
  split
  · rfl
  · split
    · split
      · rfl
      · split <;> rfl
    · split
      · rfl
      · split <;> rfl

theorem State.getParam_state (s : State) (p : Port) (q : Request) : (s.getParam p q).state = s := by
  unfold State.getParam
  dsimp only
  split
  · rfl
  · split <;> rfl

theorem State.setClarity_ranged (s : State) (q : Request) : (s.setClarity q).state.ranged = s.ranged := by
  unfold State.setClarity
  split <;> rfl

/-! ### Every command -/

/-- After a part reset everything is as after reset, with the sense line at its level. -/
theorem State.keeps_afterReset (s : State) (sense panel desk recorder : Bool) : s.Keeps (s.afterReset sense panel desk recorder) := by
  obtain ⟨-, -, -, -, hclock, hparams, -, -, -, -, hview, hnames, hlight, -⟩ := resetMeetsTheInvariants
  refine ⟨fun _ _ => ⟨State.reset.clockOk_iff.1 hclock, State.reset.paramsOk_iff.1 hparams⟩,
    fun _ => State.reset.viewOk_iff.1 hview, fun _ => hnames, fun _ => State.reset.lightOk_iff.1 hlight, fun _ => ?_⟩
  have hstate : (Feed.reset sense).state = .detached ↔ (Feed.reset sense).sense = false := by cases sense <;> decide
  exact ⟨hstate, Nat.zero_le 4, Nat.zero_le 65535, fun _ => ⟨rfl, rfl⟩⟩

/-- Every command that answers a next state keeps the ranges and the names. -/
theorem exec_keeps {i : Instr} {s t : State} (h : exec i s = .next t) : s.Keeps t := by
  cases i with
  | partReset sense panel desk recorder => cases h; exact s.keeps_afterReset ..
  | requestWrite p part | fetch p part => cases h; exact .of_same rfl
  | presenceRestored p => cases h; exact .of_same rfl
  | unknownRequestCode p =>
    cases h
    split
    · exact .refl s
    · split
      · exact .refl s
      · exact .of_same rfl
  | presenceLost p =>
    refine State.keeps_ite h fun _ => ?_
    have hreset : s.Keeps ((s.setPort p { s.port p with present := false, write := none }).portReset p none) :=
      .after (State.keeps_portReset _ p none) rfl
    unfold State.lose
    dsimp only
    split
    · exact hreset.trans (State.keeps_halt _ _)
    · exact hreset
  | partRead p part =>
    cases part with
    | ask block => cases h; exact .of_same (by simp [State.ranged])
    | rest => exact keeps_serveOpen h fun _ => .of_same rfl
  | setParam p => exact keeps_serveOpen h fun q => s.keeps_setParam p q
  | getParam p => exact keeps_serveOpen h fun q => .of_same (by rw [State.getParam_state])
  | portReset p => exact keeps_serveOpen h fun _ => s.keeps_portReset p _
  | claimView p => exact keeps_serveOpen h fun q => s.keeps_claim p q
  | releaseView p => exact keeps_serveOpen h fun _ => s.keeps_release p
  | withdrawClaim p => exact keeps_serveOpen h fun _ => .of_same rfl
  | tenancyRead p | viewRead p | pictureRead p | feedRead p | lessonRead p | exportRead p =>
    exact keeps_serveOpen h fun _ => .refl s
  | idleYield => exact State.keeps_ite h fun _ => s.keeps_tenancyTick
  | zoomTo p => exact keeps_serveGated h fun q u => u.keeps_zoomTo p q
  | zoomBy p => exact keeps_serveGated h fun q u => u.keeps_zoomBy p q
  | panTo p => exact keeps_serveGated h fun q u => u.keeps_panTo p q
  | panBy p => exact keeps_serveGated h fun q u => u.keeps_panBy p q
  | setSource p => exact keeps_serveGated h fun q u => u.keeps_setSource p q
  | freeze p => exact keeps_serveGated h fun _ u => u.keeps_freeze p
  | unfreeze p => exact keeps_serveGated h fun _ u => u.keeps_unfreeze p
  | blank p | unblank p => exact keeps_serveGated h fun _ u => u.keeps_withStaged _ id id
  | setClarity p => exact keeps_serveGated h fun q u => .of_same (u.setClarity_ranged q)
  | setExposure p => exact keeps_serveGated h fun q u => u.keeps_setExposure q
  | setLamp p => exact keeps_serveGated h fun q u => u.keeps_setLamp q
  | setOutputMode p => exact keeps_serveGated h fun q u => u.keeps_setOutputMode q
  | captureNow p | captureNext p => cases h; exact s.keeps_serve p _ _ fun q => s.keeps_capture p q
  | discard p => exact keeps_serveOpen h fun q => s.keeps_discard p q
  | label p => exact keeps_serveOpen h fun q => s.keeps_setLabel q
  | pageRead p => exact keeps_serveOpen h fun q => .of_same (by rw [State.pageRead_state])
  | thumbRead p => exact keeps_serveOpen h fun q => .of_same (by rw [State.thumbRead_state])
  | lessonStart p => exact keeps_serveOpen h fun _ => s.keeps_lessonStart p
  | lessonPause p => cases h; exact s.keeps_meetPause (some p)
  | lessonResume p => exact keeps_serveOpen h fun _ => s.keeps_lessonResume p
  | lessonEnd p => exact keeps_serveOpen h fun _ => s.keeps_lessonEnd p
  | lessonClear p => exact keeps_serveOpen h fun _ => s.keeps_lessonClear
  | exportPage p => exact keeps_serveOpen h fun q => s.keeps_exportPage p q
  | exportStop p => exact keeps_serveOpen h fun q => s.keeps_exportStop q
  | exportContinue p => exact keeps_serveOpen h fun q => s.keeps_exportContinue q
  | exportResume p => exact keeps_serveOpen h fun _ => s.keeps_exportResume
  | sensorFrameStart elapsed => cases h; exact .after (State.keeps_frameStart _) rfl
  | sensorLineStart | sensorPixelPair pair =>
    cases h
    split
    · exact .refl s
    · exact .of_same rfl
  | sensorLineEnd => exact State.keeps_sensorLineEnd h
  | sensorFrameEnd => exact State.keeps_sensorFrameEnd h
  | frameCompletion =>
    cases h
    split
    · exact s.keeps_complete _
    · exact .refl s
  | intakeWriteFault buffer => exact State.keeps_ite h fun _ => .of_same rfl
  | stallEvent => exact State.keeps_ite h fun _ => s.keeps_countOutputFrame
  | lightFrameReport => cases h; exact s.keeps_lightReport
  | autoLampStep => exact State.keeps_ite h fun _ => s.keeps_lightReport
  | motionFrameReport => cases h; exact s.keeps_motionReport
  | detectorFire => exact State.keeps_ite h fun _ => s.keeps_motionReport
  | pageStoreFrameReport => cases h; exact s.keeps_storeNextReport
  | outputFrameStart => cases h; exact s.keeps_commitAndBegin.trans (State.keeps_countOutputFrame _)
  | feedStarted => exact State.keeps_ite h fun _ => s.keeps_commitAndBegin
  | sensePresent =>
    cases h
    split
    · exact .refl s
    · exact s.keeps_enterFeed _ _ fun hf => hf.cutTo .starting true s.feed.mode (Nat.zero_le 4) (by simp)
  | senseAbsent =>
    exact State.keeps_ite h fun _ =>
      s.keeps_enterFeed _ _ fun hf => hf.cutTo .detached false s.feed.mode hf.starting (by simp)
  | feedReadFault area buffer line pair =>
    cases h
    split
    · next a ha =>
      split
      · exact (s.keeps_withFeed _ fun hf => hf.faulted { line := line, pair := pair } (State.area?_some ha)).before rfl
      · exact .refl s
    · exact .refl s
  | millisecondTick pause =>
    cases h
    have htick : s.Keeps (s.tenancyTick.clockTick pause).timelineTick :=
      (s.keeps_tenancyTick.trans (State.keeps_clockTick _ pause)).before rfl
    exact htick.trans (State.keeps_linkTick _)
  | clockCentisecond pause => exact State.keeps_ite h fun _ => s.keeps_clockTick pause
  | timedCaptureExpiry pause => exact State.keeps_ite h fun _ => s.keeps_lessonSecond pause
  | lampPulseStart => cases h; exact (s.keeps_withLight s.light.beginPulse fun hl => { hl with }).before rfl
  | lampOnTimeEnd =>
    exact State.keeps_ite h fun _ => (s.keeps_withLight s.light.endOnTime fun hl => { hl with }).before rfl
  | exportPull part =>
    cases part with
    | opening => exact State.keeps_openTransfer h
    | clock count => cases h; exact s.keeps_clockTransfer count
    | closing => cases h; exact s.keeps_closeTransfer
  | exportDeliveryCompleted => cases h; exact s.keeps_lastByte
  | exportDeliveryTimeout => exact State.keeps_ite h fun _ => s.keeps_linkTick
  | exportLinkError => cases h; exact s.keeps_halt _
  | exportMemoryFault channel buffer => exact State.keeps_ite h fun _ => s.keeps_halt _

/-- Every step of the part keeps the ranges and the names. -/
theorem step_keeps {s t : State} (h : step s = .next t) : s.Keeps t := by
  unfold step at h
  split at h
  · cases h; exact (s.keeps_withLight _ fun hl => hl.microsecond).before rfl
  · exact .after (exec_keeps h) rfl

/-- Settles O9: the clock carries within its figures, and a parameter is written clamped or from its set. -/
theorem clockAndParametersStayInRange : Obligations.ClockAndParametersStayInRange := by
  intro s t hc hp h
  obtain ⟨hclock, hparams⟩ := (step_keeps h).clock (s.clockOk_iff.1 hc) (s.paramsOk_iff.1 hp)
  exact ⟨t.clockOk_iff.2 hclock, t.paramsOk_iff.2 hparams⟩

/-- Settles O13: each record is kept in range by the operations on it, and a page that is named is not discarded. -/
theorem viewLightAndFeedStayInRange : Obligations.ViewLightAndFeedStayInRange :=
  ⟨fun s t hv h => t.viewOk_iff.2 ((step_keeps h).view (s.viewOk_iff.1 hv)),
    fun _ _ hn h => (step_keeps h).names hn,
    fun s t hl hf h => ⟨t.lightOk_iff.2 ((step_keeps h).light (s.lightOk_iff.1 hl)),
      t.feedOk_iff.2 ((step_keeps h).feed (s.feedOk_iff.1 hf))⟩⟩

end Sys2Proof.Machine

/-! SUPPORT. Light reports: the meter over the cells under the camera window, the exposure step and auto lamp, in the words of the
statement. -/
namespace Sys2Proof.Statements

open Sys2Proof.Machine

/-! ### The meter (R39) -/

/-- The cells of one run of a thumbnail row, taken one by one. -/
theorem rowSum_eq_sum (thumb : List Byte) (row first count : Nat) :
    rowSum thumb row first count = ∑ i ∈ Finset.range count, (thumb.getD (row * 64 + (first + i)) 0).toNat := by
  unfold rowSum
  induction count with
  | zero => simp
  | succ n ih =>
    rw [Finset.sum_range_succ, ← ih, List.take_add_one, List.map_append, List.sum_append, List.getElem?_drop,
      List.getD_eq_getElem?_getD, ← Nat.add_assoc]
    cases thumb[row * 64 + first + n]? <;> simp

/-- The cells whose column and row lie in two ranges, as the statement lists them (R39). -/
def cellsUnder (c0 c1 r0 r1 : Nat) : List Nat :=
  (List.range 3072).filter fun c => decide (c0 ≤ c % 64 ∧ c % 64 ≤ c1 ∧ r0 ≤ c / 64 ∧ c / 64 ≤ r1)

/-- The sum over the cells whose column and row lie in two ranges, row by row. -/
theorem sum_cells_eq (f : Nat → Nat) {c0 c1 r0 r1 : Nat} (hc : c1 < 64) (hr : r1 < 48) :
    ((cellsUnder c0 c1 r0 r1).map f).sum =
      ∑ j ∈ Finset.range (r1 + 1 - r0), ∑ i ∈ Finset.range (c1 + 1 - c0), f ((r0 + j) * 64 + (c0 + i)) := by
  have hlist : ((cellsUnder c0 c1 r0 r1).map f).sum =
      ∑ c ∈ (Finset.range 3072).filter (fun c => c0 ≤ c % 64 ∧ c % 64 ≤ c1 ∧ r0 ≤ c / 64 ∧ c / 64 ≤ r1), f c := rfl
  have hcell : ∑ c ∈ (Finset.range 3072).filter (fun c => c0 ≤ c % 64 ∧ c % 64 ≤ c1 ∧ r0 ≤ c / 64 ∧ c / 64 ≤ r1), f c =
      ∑ x ∈ Finset.Ico r0 (r1 + 1) ×ˢ Finset.Ico c0 (c1 + 1), f (x.1 * 64 + x.2) := by
    refine Finset.sum_nbij' (fun c => (c / 64, c % 64)) (fun x => x.1 * 64 + x.2) ?_ ?_ ?_ ?_ ?_ <;>
      simp only [Finset.mem_filter, Finset.mem_range, Finset.mem_product, Finset.mem_Ico, Prod.forall, Prod.mk.injEq]
    · omega
    · omega
    · omega
    · omega
    · intro c _; rw [Nat.mul_comm, Nat.div_add_mod]
  rw [hlist, hcell, Finset.sum_product, Finset.sum_Ico_eq_sum_range]
  exact Finset.sum_congr rfl fun j _ => Finset.sum_Ico_eq_sum_range _ _ _

/-- The meter takes the mean of the cells under a window inside the frame (R39). -/
theorem meterOf_eq (thumb : List Byte) {win : Window} {c0 c1 r0 r1 n mean : Nat} (hw : 0 < win.w) (hx : win.x0 + win.w ≤ 3840)
    (hh : 0 < win.h) (hy : win.y0 + win.h ≤ 2880) (hc0 : c0 = win.x0 / 60) (hc1 : c1 = (win.x0 + win.w - 1) / 60)
    (hr0 : r0 = win.y0 / 60) (hr1 : r1 = (win.y0 + win.h - 1) / 60) (hn : n = (c1 + 1 - c0) * (r1 + 1 - r0))
    (hmean : mean = ((cellsUnder c0 c1 r0 r1).map fun c => (thumb.getD c 0).toNat).sum / n) :
    meterOf thumb win = { mean := mean, cells := n } := by
  have hcolumns : c1 - c0 + 1 = c1 + 1 - c0 := by omega
  have hrows : r1 - r0 + 1 = r1 + 1 - r0 := by omega
  have htotal : ((List.range (r1 + 1 - r0)).map fun j => rowSum thumb (r0 + j) c0 (c1 + 1 - c0)).sum =
      ∑ j ∈ Finset.range (r1 + 1 - r0), ∑ i ∈ Finset.range (c1 + 1 - c0), (thumb.getD ((r0 + j) * 64 + (c0 + i)) 0).toNat :=
    Finset.sum_congr (s₁ := Finset.range (r1 + 1 - r0)) rfl fun j _ => rowSum_eq_sum thumb (r0 + j) c0 _
  rw [hmean, sum_cells_eq _ (by omega) (by omega), ← htotal, hn]
  simp only [meterOf, ← hc0, ← hc1, ← hr0, ← hr1, hcolumns, hrows]

/-! ### Auto lamp (R46) -/

/-- The runs and the set level that auto lamp leaves where the exposure step has set E to `e`, as the statement lists them (R46). -/
def lampMove (l : Light) (e : Nat) : Nat × Nat × Nat :=
  if l.auto = true ∧ e = 255 ∧ l.setLevel < 10 then
    if 30 ≤ l.darkRun + 1 then (0, 0, l.setLevel + 1) else (l.darkRun + 1, 0, l.setLevel)
  else if l.auto = true ∧ e = 0 ∧ 1 < l.setLevel then
    if 30 ≤ l.brightRun + 1 then (0, 0, l.setLevel - 1) else (0, l.brightRun + 1, l.setLevel)
  else (0, 0, l.setLevel)

theorem autoLamp_eq {l : Light} (hm : l.mode = .auto) {dark bright level : Nat}
    (h : (dark, bright, level) = lampMove l l.e) :
    l.autoLamp = { l with darkRun := dark, brightRun := bright, setLevel := level } := by
  unfold lampMove at h
  cases hauto : l.auto with
  | false =>
    simp only [hauto, Bool.false_eq_true, false_and, if_false, Prod.mk.injEq] at h
    obtain ⟨rfl, rfl, rfl⟩ := h
    simp [Light.autoLamp, hauto]
  | true =>
    simp only [hauto, true_and] at h
    simp only [Light.autoLamp, hauto, hm, Light.tooDark, Light.tooBright, decide_true, Bool.and_self, if_true, decide_eq_true_eq]
    split at h
    · next hdark =>
      rw [if_pos hdark]
      split at h <;> cases h <;> simp [*]
    · next hdark =>
      rw [if_neg hdark]
      split at h
      · next hbright =>
        rw [if_pos hbright]
        split at h <;> cases h <;> simp [*]
      · next hbright =>
        rw [if_neg hbright]
        cases h
        rfl

/-! ### The report -/

/-- The oldest report in transit is taken (R40). -/
theorem exec_lightReport {s : State} {r : Report} {rest : List Report} {after : Light} (hq : s.light.reports = r :: rest)
    (h : s.light.report r s.view.camera s.params = after) :
    exec .lightFrameReport s = .next { s with light := { after with reports := rest } } := by
  subst h
  simp only [exec, execLightFrameReport, State.lightReport, hq]
  rfl

/-- AUTO_LAMP_STEP is the report, where the report moves the set level (log 5). -/
theorem exec_autoLampStep {s : State} {r : Report} {rest : List Report} (hq : s.light.reports = r :: rest)
    (h : (s.light.report r s.view.camera s.params).setLevel ≠ s.light.setLevel) :
    exec .autoLampStep s = exec .lightFrameReport s := by
  have hdue : s.lampStepDue = true := by simpa [State.lampStepDue, hq, Light.stepDue] using h
  simp only [exec, execAutoLampStep, execLightFrameReport, hdue, if_true]

/-- Outside AUTO a report clears both runs and nothing else (R40, R46). -/
theorem lightReport_idle {l : Light} (r : Report) (win : Window) (params : Params) (h : l.stalled = true ∨ l.mode ≠ .auto) :
    l.report r win params = { l with darkRun := 0, brightRun := 0 } := by
  unfold Light.report
  split
  · rfl
  · next hs =>
    have hm : l.mode ≠ .auto := h.resolve_left hs
    have hlamp : l.autoLamp = { l with darkRun := 0, brightRun := 0 } := by simp [Light.autoLamp, hm]
    split
    · next hauto => exact absurd hauto hm
    · exact hlamp
    · exact hlamp

/-- In AUTO a report meters, moves E by the exposure step, and then auto lamp looks at E (R39, R40, R46). -/
theorem lightReport_auto {l : Light} (r : Report) {win : Window} {params : Params} (hs : l.stalled = false) (hm : l.mode = .auto)
    {n mean e dark bright level : Nat} {step : Int} (hmeter : meterOf r.thumb win = { mean := mean, cells := n })
    (hstep : step = (if ((params.exposureTarget : Int) - mean).natAbs ≤ params.exposureDeadband then 0
      else max (-4) (min 4 (((params.exposureTarget : Int) - mean).tdiv 8))))
    (he : (e : Int) = max 0 (min 255 ((l.e : Int) + step)))
    (hlamp : (dark, bright, level) = lampMove l e) :
    l.report r win params = { l with
      e := e, last := some { mean := mean, cells := n }, darkRun := dark, brightRun := bright, setLevel := level } := by
  have hexposure : exposureStep params.exposureTarget params.exposureDeadband mean = step := hstep.symm
  have hclamp : clampInt 0 255 ((l.e : Int) + step) = e := by
    rw [← Int.natCast_inj, clampInt_eq _ _ _ (by omega), he]
    rfl
  have hexpose : l.expose r win params = { l with e := e, last := some { mean := mean, cells := n } } := by
    simp only [Light.expose, hmeter, hexposure, hclamp]
  have hreport : l.report r win params = (l.expose r win params).autoLamp := by simp [Light.report, hs, hm]
  rw [hreport, hexpose]
  exact autoLamp_eq (l := { l with e := e, last := some { mean := mean, cells := n } }) hm hlamp

/-- Settles O45: a report outside AUTO, and one in AUTO by its meter, its step and the lamp's runs. -/
theorem lightReportMetersAndSteps : Obligations.LightReportMetersAndSteps := by
  intro s r rest hq
  refine ⟨fun hs => ?_, fun _ hm => ?_, ?_⟩
  · exact exec_lightReport hq (lightReport_idle r _ _ (.inl hs))
  · exact exec_lightReport hq (lightReport_idle r _ _ (.inr hm))
  · intro hs hm hw hx hh hy _ c0 c1 r0 r1 n mean e dark bright level step hc0 hc1 hr0 hr1 hn hmean hstep he hlamp
    have hreport := lightReport_auto r hs hm (meterOf_eq r.thumb hw hx hh hy hc0 hc1 hr0 hr1 hn hmean) hstep he hlamp
    exact ⟨exec_lightReport hq hreport, fun hlevel => exec_autoLampStep hq (by rw [hreport]; exact hlevel)⟩

end Sys2Proof.Statements

/-! SUPPORT. Parameters: the value a write keeps, the wait set in another rank order, and the answers of SET_PARAM and GET_PARAM. -/
namespace Sys2Proof.Statements

open Sys2Proof.Machine

/-! ### The wait set in a rank order (R103, R107) -/

theorem rankList_nodup (order : Nat) : (rankList order).Nodup := by
  unfold rankList
  split <;> decide

/-- In a wait set without repeated ports an entry is found by its port. -/
theorem find?_port_iff {ws : List Waiter} (hd : (ws.map fun w => w.port).Nodup) (q : Port) (w : Waiter) :
    (ws.find? fun x => decide (x.port = q)) = some w ↔ w ∈ ws ∧ w.port = q := by
  induction ws with
  | nil => simp
  | cons x xs ih =>
    obtain ⟨hx, hxs⟩ := List.nodup_cons.1 hd
    by_cases hq : x.port = q
    · subst hq
      simp only [decide_true, List.find?_cons_of_pos, Option.some.injEq, List.mem_cons]
      constructor
      · rintro rfl; exact ⟨.inl rfl, rfl⟩
      · rintro ⟨rfl | hw, hp⟩
        · rfl
        · exact absurd (List.mem_map.2 ⟨w, hw, hp⟩) hx
    · rw [List.find?_cons_of_neg (by simpa using hq), ih hxs, List.mem_cons]
      constructor
      · rintro ⟨hw, hp⟩; exact ⟨.inr hw, hp⟩
      · rintro ⟨rfl | hw, hp⟩
        · exact absurd hp hq
        · exact ⟨hw, hp⟩

/-- A wait set in an order of the ports is what looking the ports up in that order gives. -/
theorem filterMap_find?_port {order : List Port} {ws : List Waiter} (hd : order.Nodup)
    (h : (ws.map fun w => w.port).Sublist order) :
    (order.filterMap fun q => ws.find? fun w => decide (w.port = q)) = ws := by
  have hws : (ws.map fun w => w.port).Nodup := h.nodup hd
  induction order generalizing ws with
  | nil =>
    obtain rfl : ws = [] := by simpa using h
    rfl
  | cons a order ih =>
    obtain ⟨ha, hd'⟩ := List.nodup_cons.1 hd
    cases ws with
    | nil => simp
    | cons w rest =>
      by_cases hw : w.port = a
      · subst hw
        have hrest : (rest.map fun w => w.port).Sublist order := List.cons_sublist_cons.1 h
        have hskip : (order.filterMap fun q => (w :: rest).find? fun x => decide (x.port = q)) =
            order.filterMap fun q => rest.find? fun x => decide (x.port = q) := by
          refine List.filterMap_congr fun q hq => List.find?_cons_of_neg ?_
          have hne : w.port ≠ q := fun he => ha (he ▸ hq)
          simpa using hne
        rw [List.filterMap_cons_some (b := w) (by simp), hskip, ih hd' hrest (hrest.nodup hd')]
      · have hsub : ((w :: rest).map fun w => w.port).Sublist order := by
          refine (List.sublist_cons_iff.1 h).resolve_right ?_
          rintro ⟨r, hr, -⟩
          exact hw (List.cons.inj hr).1
        have hnone : ((w :: rest).find? fun x => decide (x.port = a)) = none := by
          refine List.find?_eq_none.2 fun x hx => ?_
          have hne : x.port ≠ a := fun he => ha (he ▸ hsub.subset (List.mem_map_of_mem hx))
          simpa using hne
        simp only [List.filterMap_cons, hnone]
        exact ih hd' hsub hws

/-- The re-sorted wait set is the one with the same entries in the new rank order (R103). -/
theorem rankSort_eq {order : Nat} {old ws : List Waiter} (hold : (old.map fun w => w.port).Nodup)
    (hmem : ∀ w, w ∈ ws ↔ w ∈ old) (hws : (ws.map fun w => w.port).Sublist (rankList order)) : rankSort order old = ws := by
  have hfind : ∀ q : Port, (old.find? fun w => decide (w.port = q)) = ws.find? fun w => decide (w.port = q) := by
    intro q
    refine Option.ext fun w => ?_
    rw [find?_port_iff hold, find?_port_iff (hws.nodup (rankList_nodup order)), hmem]
  unfold rankSort
  simp only [hfind]
  exact filterMap_find?_port (rankList_nodup order) hws

/-! ### The value kept (R187, R188) -/

/-- The parameters that keep the clamped value and have no owner that acts on a write, as the statement lists them: identifier,
range, and the parameters once `kept` is kept. -/
def clampedParams (ps : Params) (kept : Nat) : List (Byte × Nat × Nat × Params) :=
  [(0x01, 5, 240, { ps with stallLimit := kept }), (0x02, 0, 63, { ps with clarityGain := kept }),
    (0x03, 0, 31, { ps with clarityCore := kept }), (0x04, 16, 240, { ps with exposureTarget := kept }),
    (0x05, 0, 32, { ps with exposureDeadband := kept }),
    (0x06, 1, 255, { ps with motionHigh := kept, motionLow := min ps.motionLow (kept - 1) }),
    (0x08, 1, 30, { ps with settleFrames := kept }), (0x0D, 0, 64, { ps with duplicateLimit := kept }),
    (0x0F, 10, 1000, { ps with exportTimeout := kept }), (0x10, 1, 256, { ps with readyCount := kept }),
    (0x11, 100, 60000, { ps with readyAge := kept })]

theorem clampedParams_write {ps after : Params} {id : Byte} {lo hi kept v : Nat} (h : (id, lo, hi, after) ∈ clampedParams ps kept)
    (hk : kept = max lo (min hi v)) :
    ps.write id.toNat v = some (after, kept) ∧ id.toNat ≠ 0x12 ∧ ∀ s : State, s.ownerActs id.toNat kept = s := by
  simp only [clampedParams, List.mem_cons, Prod.mk.injEq, List.not_mem_nil, or_false] at h
  rcases h with ⟨rfl, rfl, rfl, rfl⟩ | ⟨rfl, rfl, rfl, rfl⟩ | ⟨rfl, rfl, rfl, rfl⟩ | ⟨rfl, rfl, rfl, rfl⟩ | ⟨rfl, rfl, rfl, rfl⟩ |
    ⟨rfl, rfl, rfl, rfl⟩ | ⟨rfl, rfl, rfl, rfl⟩ | ⟨rfl, rfl, rfl, rfl⟩ | ⟨rfl, rfl, rfl, rfl⟩ | ⟨rfl, rfl, rfl, rfl⟩ |
    ⟨rfl, rfl, rfl, rfl⟩ <;>
  · rw [← clampNat_eq _ _ _ (by decide)] at hk
    subst hk
    exact ⟨rfl, by decide, fun _ => rfl⟩

/-- The parameters and their values, as the statement lists them, with the port's own mask (R187). -/
def paramValues (s : State) (p : Port) : List (Byte × Nat) :=
  [(0x01, s.params.stallLimit), (0x02, s.params.clarityGain), (0x03, s.params.clarityCore), (0x04, s.params.exposureTarget),
    (0x05, s.params.exposureDeadband), (0x06, s.params.motionHigh), (0x07, s.params.motionLow), (0x08, s.params.settleFrames),
    (0x09, s.params.rankOrder), (0x0A, s.params.yieldDelay), (0x0B, s.params.holdFastLimit),
    (0x0C, if s.params.pageTurnCapture then 1 else 0), (0x0D, s.params.duplicateLimit), (0x0E, s.params.timedInterval),
    (0x0F, s.params.exportTimeout), (0x10, s.params.readyCount), (0x11, s.params.readyAge), (0x12, (s.port p).mask.toNat)]

/-- The identifiers 01h to 12h are those of the parameters (R187). -/
theorem noParam {id : Byte} (h : id = 0 ∨ 0x12 < id) : id.toNat = 0 ∨ ∃ i, id.toNat = i + 19 := by
  rcases h with rfl | h
  · exact .inl rfl
  · have hlt : 18 < id.toNat := BitVec.lt_def.1 h
    exact .inr ⟨id.toNat - 19, by omega⟩

theorem write_noParam (ps : Params) {n : Nat} (v : Nat) (h : n = 0 ∨ ∃ i, n = i + 19) : ps.write n v = none ∧ ps.read n = none := by
  rcases h with rfl | ⟨i, rfl⟩ <;> exact ⟨rfl, rfl⟩

/-! ### The answers (R188) -/

section
variable {s : State} {p : Port} {q : Request} {id a b c d : Byte} {v : Nat}

/-- The value of SET_PARAM is the four bytes after the identifier. -/
theorem argU32_eq (hv : v = 16777216 * a.toNat + 65536 * b.toNat + 256 * c.toNat + d.toNat) : argU32 [id, a, b, c, d] 1 = v := by
  show 65536 * (256 * a.toNat + b.toNat) + (256 * c.toNat + d.toNat) = v
  omega

theorem setParam_written {ps : Params} {kept : Nat} (hq : q.args = [id, a, b, c, d])
    (hv : v = 16777216 * a.toNat + 65536 * b.toNat + 256 * c.toNat + d.toNat) (hid : id.toNat ≠ 0x12)
    (hw : s.params.write id.toNat v = some (ps, kept)) :
    s.setParam p q = .ok ((s.withParams ps).ownerActs id.toNat kept) (be32 kept) := by
  have hfirst : argByte [id, a, b, c, d] 0 = id.toNat := rfl
  simp only [State.setParam, hq, hfirst, argU32_eq hv, if_neg hid, hw]

theorem setParam_refused (hq : q.args = [id, a, b, c, d])
    (hv : v = 16777216 * a.toNat + 65536 * b.toNat + 256 * c.toNat + d.toNat) (hid : id.toNat ≠ 0x12)
    (hw : s.params.write id.toNat v = none) : s.setParam p q = .plain s .badArgument := by
  have hfirst : argByte [id, a, b, c, d] 0 = id.toNat := rfl
  simp only [State.setParam, hq, hfirst, argU32_eq hv, if_neg hid, hw]

theorem setParam_mask (hq : q.args = [0x12, a, b, c, d])
    (hv : v = 16777216 * a.toNat + 65536 * b.toNat + 256 * c.toNat + d.toNat) :
    s.setParam p q =
      if v ≤ 31 then .ok (s.setPort p { s.port p with mask := BitVec.ofNat 5 v }) (be32 v) else .plain s .badArgument := by
  have hfirst : argByte [0x12, a, b, c, d] 0 = 0x12 := rfl
  simp only [State.setParam, hq, hfirst, argU32_eq hv, if_true]
  rfl

theorem getParam_value (hq : q.args = [id]) (h : (id, v) ∈ paramValues s p) : s.getParam p q = .ok s (be32 v) := by
  unfold State.getParam
  rw [hq]
  simp only [paramValues, List.mem_cons, Prod.mk.injEq, List.not_mem_nil, or_false] at h
  rcases h with ⟨rfl, rfl⟩ | ⟨rfl, rfl⟩ | ⟨rfl, rfl⟩ | ⟨rfl, rfl⟩ | ⟨rfl, rfl⟩ | ⟨rfl, rfl⟩ | ⟨rfl, rfl⟩ | ⟨rfl, rfl⟩ | ⟨rfl, rfl⟩ |
    ⟨rfl, rfl⟩ | ⟨rfl, rfl⟩ | ⟨rfl, rfl⟩ | ⟨rfl, rfl⟩ | ⟨rfl, rfl⟩ | ⟨rfl, rfl⟩ | ⟨rfl, rfl⟩ | ⟨rfl, rfl⟩ | ⟨rfl, rfl⟩ <;> rfl

theorem getParam_refused (hq : q.args = [id]) (h : id = 0 ∨ 0x12 < id) : s.getParam p q = .plain s .badArgument := by
  have hnone := noParam h
  have hfirst : argByte [id] 0 = id.toNat := rfl
  have hid : id.toNat ≠ 0x12 := by omega
  obtain ⟨-, hread⟩ := write_noParam s.params 0 hnone
  simp only [State.getParam, hq, hfirst, if_neg hid, hread]

end

/-! ### The two requests -/

/-- A request of one length that is not gated is answered as its unit answers it. -/
theorem serveOpen_answer {s : State} {p : Port} {k : Fin 4} {q : Request} {code : Byte} {args : List Byte} {n : Nat}
    (body : Request → State → Answer) {answer : Answer} (h : Hands s p k q code args) (hn : code.toNat = n)
    (hl : requestLengths code.toNat = some (args.length, args.length)) (ha : body q s = answer) :
    serveOpen n p body s = .next (answer.state.reply p k q answer.status answer.results) := by
  subst ha
  exact serveOpen_eq h hn (h.lengthAllowed hl)

/-- The cases of SET_PARAM in which the tenancy unit evaluates, as the statement lists them (R103, R109, R111). -/
theorem setParam_tenancy {s : State} {p : Port} {q : Request} {id a b c d : Byte} {v kept : Nat} {ps : Params} {ws : List Waiter}
    (hq : q.args = [id, a, b, c, d]) (hv : v = 16777216 * a.toNat + 65536 * b.toNat + 256 * c.toNat + d.toNat)
    (h : (id = 0x09 ∧ v ≤ 5 ∧ kept = v ∧ ps = { s.params with rankOrder := v } ∧
        (∀ w, w ∈ ws ↔ w ∈ s.tenancy.waiters) ∧ (ws.map fun w => w.port).Sublist (rankList v)) ∨
      (id = 0x0A ∧ kept = min 60000 v ∧ ps = { s.params with yieldDelay := kept } ∧ ws = s.tenancy.waiters) ∨
      (id = 0x0B ∧ kept = min 3600 v ∧ ps = { s.params with holdFastLimit := kept } ∧ ws = s.tenancy.waiters))
    (ht : s.tenancyOk) :
    s.setParam p q =
      .ok ({ s with params := ps, tenancy := { s.tenancy with waiters := ws } } : State).settle (be32 kept) := by
  rcases h with ⟨rfl, hle, rfl, rfl, hmem, hsub⟩ | ⟨rfl, rfl, rfl, rfl⟩ | ⟨rfl, rfl, rfl, rfl⟩
  · have hw : s.params.write (0x09 : Byte).toNat kept = some ({ s.params with rankOrder := kept }, kept) := by
      simp [Params.write, enumValue, hle]
    obtain ⟨hranked, -⟩ := ht
    rw [setParam_written hq hv (by decide) hw, ← rankSort_eq (hranked.nodup (rankList_nodup _)) hmem hsub]
    rfl
  · rw [← clampNat_zero]
    exact setParam_written hq hv (by decide) rfl
  · rw [← clampNat_zero]
    exact setParam_written hq hv (by decide) rfl

/-- Settles O20: SET_PARAM by the identifier and the value kept, GET_PARAM by the identifier. -/
theorem parametersAreWrittenAndRead : Obligations.ParametersAreWrittenAndRead := by
  refine ⟨fun s p k q id a b c d v hq hv => ?_, fun s p k q id a b c d v kept ps ws hq hv hcase ht => ?_,
    fun s p k q id hq => ⟨fun v hmem => ?_, fun hid => ?_⟩⟩
  · have hset : ∀ answer : Answer, s.setParam p q = answer →
        exec (.setParam p) s = .next (answer.state.reply p k q answer.status answer.results) := fun answer ha =>
      serveOpen_answer (fun q s => s.setParam p q) hq rfl rfl ha
    have hargs := hq.args_eq
    refine ⟨fun lo hi kept ps hkept hmem => ?_, ?_, ?_, ?_, ?_, ?_, fun hid => ?_⟩
    · obtain ⟨hw, hid, howner⟩ := clampedParams_write hmem hkept
      have hanswer := hset _ (setParam_written hargs hv hid hw)
      rw [howner] at hanswer
      exact hanswer
    · rintro rfl kept rfl
      rw [← clampNat_zero 254 v]
      exact hset _ (setParam_written hargs hv (by decide) rfl)
    · rintro rfl
      exact ⟨fun hle => hset _ (setParam_written hargs hv (by decide) (by simp [Params.write, enumValue, hle])),
        fun hgt => hset _ (setParam_refused hargs hv (by decide) (by simp [Params.write, enumValue, Nat.not_le.2 hgt]))⟩
    · rintro rfl kept rfl
      have hkept : intervalKept v = if v = 0 then 0 else max 5 (min 600 v) := by
        rw [intervalKept, clampNat_eq _ _ _ (by decide)]
      rw [← hkept]
      refine (hset _ (setParam_written hargs hv (by decide) rfl)).trans ?_
      show Host.Outcome.next (State.reply (if intervalKept v = 0 then _ else _) _ _ _ _ _) = _
      split <;> rfl
    · rintro rfl
      exact ⟨fun hle => hset _ ((setParam_mask hargs hv).trans (if_pos hle)),
        fun hgt => hset _ ((setParam_mask hargs hv).trans (if_neg (by omega)))⟩
    · rintro rfl hgt
      exact hset _ (setParam_refused hargs hv (by decide) (by simp [Params.write, enumValue, Nat.not_le.2 hgt]))
    · have hnone := noParam hid
      exact hset _ (setParam_refused hargs hv (by omega) (write_noParam _ v hnone).1)
  · exact serveOpen_answer (fun q s => s.setParam p q) hq rfl rfl (setParam_tenancy hq.args_eq hv hcase ht)
  · exact serveOpen_answer (fun q s => s.getParam p q) hq rfl rfl (getParam_value hq.args_eq hmem)
  · exact serveOpen_answer (fun q s => s.getParam p q) hq rfl rfl (getParam_refused hq.args_eq hid)

end Sys2Proof.Statements

/-! SUPPORT. Reads: the fields of the seven read requests in the words of the statement, and the answers of PART_READ. -/
namespace Sys2Proof.Statements

open Sys2Proof.Machine

/-! ### The part summary (R189) -/

theorem summaryOf_eq (s : State) (b : SummaryBlock) : summaryOf s b = s.blockSummary b := by
  cases b with
  | store => simp [summaryOf, State.blockSummary, Store.countState, List.countP_eq_length_filter]
  | pool => simp [summaryOf, State.blockSummary, Pool.freeCount, List.countP_eq_length_filter]
  | _ => rfl

theorem answeredOr_eq (r : PortRec) (b : SummaryBlock) (now : List Byte) : answeredOr r b now = (r.answerOf b).getD now := by
  unfold answeredOr PortRec.answerOf
  cases r.answers.find? fun a => decide (a.block = b) <;> rfl

/-- The summary takes of each block what it has answered, or its fields as they stand. -/
theorem partResults_eq (s : State) (p : Port) :
    s.partResults p = [byte1 (portNumber p)] ++ [SummaryBlock.intake, .feed, .tenancy, .lesson, .store, .pool, .link].flatMap fun b =>
      answeredOr (s.port p) b (summaryOf s b) := by
  simp only [State.partResults, summaryBlocks, answeredOr_eq, summaryOf_eq]

theorem answerOf_eq_none {r : PortRec} {b : SummaryBlock} (h : ∀ a ∈ r.answers, a.block ≠ b) : r.answerOf b = none := by
  have hnone : (r.answers.find? fun a => decide (a.block = b)) = none := List.find?_eq_none.2 fun a ha => by simpa using h a ha
  rw [PortRec.answerOf, hnone]
  rfl

theorem answerOf_eq_some {r : PortRec} {b : SummaryBlock} (h : ∃ a ∈ r.answers, a.block = b) :
    ∃ bytes, r.answerOf b = some bytes := by
  obtain ⟨a, ha, hb⟩ := h
  have hfound : (r.answers.find? fun a => decide (a.block = b)).isSome = true :=
    List.find?_isSome.2 ⟨a, ha, by simpa using hb⟩
  obtain ⟨x, hx⟩ := Option.isSome_iff_exists.1 hfound
  exact ⟨x.bytes, by rw [PortRec.answerOf, hx]; rfl⟩

/-! ### The tenancy record (R106, R114) -/

/-- The standing as a byte: holding, waiting or neither (R106). -/
theorem byte1_standing (t : Tenancy) (p : Port) :
    byte1 (t.standing p) = if t.holder = some p then 1 else if ∃ w ∈ t.waiters, w.port = p then 2 else 0 := by
  have hposition : t.position p = 0 ↔ ¬ ∃ w ∈ t.waiters, w.port = p := by
    unfold Tenancy.position
    split
    · next i hi =>
      obtain ⟨hlt, hw, -⟩ := List.findIdx?_eq_some_iff_getElem.1 hi
      exact iff_of_false (by simp) (not_not.2 ⟨t.waiters[i], List.getElem_mem hlt, by simpa using hw⟩)
    · next hi =>
      have hnone := List.findIdx?_eq_none_iff.1 hi
      exact iff_of_true rfl fun ⟨w, hw, hp⟩ => by simpa [hp] using hnone w hw
  unfold Tenancy.standing
  by_cases hh : t.holder = some p
  · rw [if_pos hh, if_pos hh]; rfl
  · rw [if_neg hh, if_neg hh]
    by_cases hw : ∃ w ∈ t.waiters, w.port = p
    · rw [if_neg (fun h => hposition.1 h hw), if_pos hw]; rfl
    · rw [if_pos (hposition.2 hw), if_neg hw]; rfl

/-! ### The lesson record (R150) -/

/-- The results of LESSON_READ end with the age of the oldest unsealed entry (R150, R156). -/
theorem lessonResults_eq (s : State) :
    s.lessonResults = lessonReply s.lesson ++ be16 s.params.timedInterval ++ be16 s.lesson.timed
      ++ be16 s.timeline.entries.length ++ be16 (s.timeline.entries.countP fun e => e.isSealed) ++ be16 s.timeline.gap
      ++ be16 s.timeline.nextSeq.toNat ++ be16 ((s.timeline.age.map fun a => min 65535 a).getD 0) := by
  unfold State.lessonResults
  rw [List.countP_eq_length_filter]
  cases s.timeline.age <;> rfl

theorem age_eq (t : Timeline) : t.age = (t.entries.find? fun e => !e.isSealed).map fun e => (t.ms - e.arrival).toNat := by
  rw [Timeline.age, Timeline.unsealed, List.head?_filter]

/-! ### Flags, and fields that are absent (R196) -/

theorem flag1_true : flag1 true = 1 := rfl

theorem flag1_false : flag1 false = 0 := rfl

theorem byte1_zero : byte1 0 = 0 := rfl

theorem be32_zero : be32 0 = [0, 0, 0, 0] := rfl

/-! ### The projector feed (R89) -/

/-- What FEED_READ reports of an area that is live where `gone` fails (R89). -/
theorem area_bytes_eq (a : Area) {live : Bool} {gone : Prop} [Decidable gone] (h : live = true ↔ ¬ gone) :
    a.bytes live = [byte1 (if gone then 1 else a.showing.code), byte1 (bufferCode a.pin)] := by
  by_cases hg : gone
  · have hdead : live = false := Bool.eq_false_iff.2 fun hl => h.1 hl hg
    simp only [Area.bytes, hdead, if_pos hg]
    rfl
  · simp only [Area.bytes, h.2 hg, if_true, if_neg hg]

/-! ### The answers -/

section
variable {s : State} {p : Port} {k : Fin 4} {q : Request}

/-- A read request without arguments is answered OK with its results, and changes nothing but the reply. -/
theorem serveOpen_read {code : Byte} {n : Nat} {results : State → List Byte} {layout : List Byte} (h : Hands s p k q code [])
    (hn : code.toNat = n) (hl : requestLengths code.toNat = some (0, 0)) (hr : results s = layout) :
    serveOpen n p (fun _ s => .ok s (results s)) s = .next (s.reply p k q .ok layout) := by
  subst hr
  exact serveOpen_answer (fun _ s => .ok s (results s)) h hn hl rfl

theorem exec_partRead_rest (h : Hands s p k q 0x01 []) :
    exec (.partRead p) s = .next ((s.setPort p { s.port p with answers := [] }).reply p k q .ok
      ([byte1 (portNumber p)] ++ [SummaryBlock.intake, .feed, .tenancy, .lesson, .store, .pool, .link].flatMap fun b =>
        answeredOr (s.port p) b (summaryOf s b))) := by
  rw [← partResults_eq]
  exact serveOpen_answer (fun _ s => .ok (s.dropAnswers p) (s.partResults p)) h rfl rfl rfl

theorem exec_partRead_ask {b : SummaryBlock} (h : Hands s p k q 0x01 []) (hb : ∀ a ∈ (s.port p).answers, a.block ≠ b) :
    exec (.partRead p (.ask b)) s = .next (s.setPort p { s.port p with
      slots := (s.port p).slots.set k (.executing q)
      answers := (s.port p).answers ++ [{ block := b, bytes := summaryOf s b }] }) := by
  have hlen := h.lengthAllowed rfl
  obtain ⟨hc, hcode, -⟩ := h
  show Host.Outcome.next (s.askBlock p b) = _
  rw [State.askBlock_answers s p b k q hc (by simp [Request.hasCode, hcode]) hlen (answerOf_eq_none hb), summaryOf_eq]
  rfl

theorem exec_partRead_again {b : SummaryBlock} (h : ∃ a ∈ (s.port p).answers, a.block = b) :
    exec (.partRead p (.ask b)) s = .next s := by
  obtain ⟨bytes, hbytes⟩ := answerOf_eq_some h
  show Host.Outcome.next (s.askBlock p b) = _
  rw [State.askBlock_once s p b bytes hbytes]

end

/-- Settles O21: each request's results, block by block, are the layout the statement lists. -/
theorem summaryAndBlockReadsReportTheRecords : Obligations.SummaryAndBlockReadsReportTheRecords := by
  refine ⟨fun s p k q => ⟨fun h => ⟨exec_partRead_rest h, fun b hb => exec_partRead_ask h hb, fun b hb => exec_partRead_again hb⟩,
    ?_, ?_⟩, fun s p k q => ⟨?_, ?_, ?_, ?_⟩⟩
  · intro h w0 w1 hw0 hw1
    have hfirst : waiterBytes s.tenancy.waiters[0]? = w0 := by rw [hw0]; cases s.tenancy.waiters[0]? <;> rfl
    have hsecond : waiterBytes s.tenancy.waiters[1]? = w1 := by rw [hw1]; cases s.tenancy.waiters[1]? <;> rfl
    refine serveOpen_read (results := fun s => s.tenancyResults p) h rfl rfl ?_
    simp only [State.tenancyResults, byte1_standing, hfirst, hsecond]
  · intro h age hage
    have holdest : (s.timeline.age.map fun a => min 65535 a).getD 0 = age := by
      rw [hage, age_eq]
      cases s.timeline.entries.find? fun e => !e.isSealed <;> rfl
    refine serveOpen_read (results := State.lessonResults) h rfl rfl ?_
    rw [lessonResults_eq, holdest]
    rfl
  · intro h view window hview hwindow
    have hrec : view = ViewRec.bytes := funext hview
    have hwin : window = Window.bytes := funext hwindow
    refine serveOpen_read (results := fun s => s.view.results) h rfl rfl ?_
    rw [hrec, hwin, View.results]
    cases s.view.pageArea <;> cases s.view.held <;> rfl
  · intro h
    refine serveOpen_read (results := State.pictureResults) h rfl rfl ?_
    unfold State.pictureResults Intake.bytes Light.bytes Motion.bytes
    cases s.intake.lastInterval <;> cases s.light.last <;> cases s.motion.score <;> simp [flag1_true, flag1_false, be32_zero, byte1_zero]
  · intro h pin hpin
    have hcode : ∀ b, byte1 (bufferCode b) = pin b := fun b => by
      rw [hpin]
      cases b <;> rfl
    refine serveOpen_read (results := State.feedResults) h rfl rfl ?_
    have hfirst := area_bytes_eq s.feed.first (live := decide (s.feed.state ≠ .detached)) (gone := s.feed.state = .detached)
      (by simp)
    have hsecond := area_bytes_eq s.feed.second (gone := s.feed.state = .detached ∨ s.view.active.source ≠ .split)
      (live := decide (s.feed.state ≠ .detached) && decide (s.view.active.source = .split)) (by simp)
    simp only [State.feedResults, hfirst, hsecond, hcode]
    rfl
  · intro h channel hchannel
    have hchan : channel = Chan.bytes := funext fun c => by
      rw [hchannel]
      cases c <;> rfl
    refine serveOpen_read (results := State.exportResults) h rfl rfl ?_
    rw [hchan]
    unfold State.exportResults
    cases s.link.state <;> cases s.link.lastServed <;> rfl

end Sys2Proof.Statements

/-! SUPPORT. View requests: the arguments of the zoom, pan and source requests, and the staged view each of them leaves. -/
namespace Sys2Proof.Statements

open Sys2Proof.Machine

/-! ### Arguments (R61–R65) -/

/-- A two-byte signed field anywhere in a request is the value of its two bytes in two's complement. -/
theorem argS16_of_argU16 {args : List Byte} {i : Nat} {a b : Byte} (h : argU16 args i = 256 * a.toNat + b.toNat) :
    argS16 args i = (a ++ b : BitVec 16).toInt := by
  have hsame : argU16 args i = argU16 [0, a, b] 1 := h
  rw [← argS16_eq_toInt 0 a b, argS16, argS16, hsame]

theorem clampInt_eq_of {lo hi v : Nat} {x : Int} (hv : (v : Int) = max (lo : Int) (min (hi : Int) x)) (hle : lo ≤ hi) :
    clampInt lo hi x = v :=
  Int.natCast_inj.1 ((clampInt_eq lo hi x hle).trans hv.symm)

/-- A number above 2 names no source (R65). -/
theorem source_ofCode_none {n : Nat} (h : 2 < n) : Source.ofCode n = none := by
  obtain ⟨i, rfl⟩ := Nat.exists_eq_add_of_le' h
  rfl

theorem storedWith_eq_some {st : Store} {j : SlotId} {tag : PageTag} {data : PageData} (h : st.page j = .stored tag data) :
    st.storedWith j tag.serial = some (tag, data) := by
  simp only [Store.storedWith, h, if_true]

theorem storedWith_eq_none {st : Store} {j : SlotId} {n : Nat}
    (h : ∀ (tag : PageTag) (data : PageData), st.page j = .stored tag data → tag.serial ≠ n) : st.storedWith j n = none := by
  rw [← Option.not_isSome_iff_eq_none, Store.storedWith_isSome]
  rintro ⟨tag, data, hp, hn⟩
  exact h tag data hp hn

/-! ### What each request stages (R60–R65, R68) -/

section
variable {s : State} {p : Port} {q : Request} {a b c d : Byte}

theorem zoomTo_staged {target glide : Nat} (hq : q.args = [a, b, c])
    (ht : target = max 100 (min 1600 (256 * a.toNat + b.toNat))) (hg : glide = min 100 c.toNat) :
    s.zoomTo p q = .ok (s.withStaged { s.view.staged with target := target, glide := glide, author := some p })
      (be16 target ++ [byte1 glide]) := by
  have htarget : clampNat 100 1600 (argU16 q.args 0) = target := by
    rw [hq, ht]; exact clampNat_eq 100 1600 _ (by decide)
  have hglide : clampNat 0 100 (argByte q.args 2) = glide := by
    rw [hq, hg]; exact clampNat_zero 100 c.toNat
  simp only [State.zoomTo, htarget, hglide]

theorem zoomBy_staged {target glide : Nat} (hq : q.args = [a, b, c])
    (ht : (target : Int) = max 100 (min 1600 ((s.view.staged.target : Int) + (a ++ b : BitVec 16).toInt)))
    (hg : glide = min 100 c.toNat) :
    s.zoomBy p q = .ok (s.withStaged { s.view.staged with target := target, glide := glide, author := some p })
      (be16 target ++ [byte1 glide]) := by
  have htarget : clampInt 100 1600 ((s.view.staged.target : Int) + argS16 q.args 0) = target := by
    rw [hq, argS16_of_argU16 (a := a) (b := b) rfl]; exact clampInt_eq_of ht (by decide)
  have hglide : clampNat 0 100 (argByte q.args 2) = glide := by
    rw [hq, hg]; exact clampNat_zero 100 c.toNat
  simp only [State.zoomBy, htarget, hglide]

theorem panTo_staged {cx cy : Nat} (hq : q.args = [a, b, c, d]) (hx : cx = min 3839 (256 * a.toNat + b.toNat))
    (hy : cy = min 2879 (256 * c.toNat + d.toNat)) :
    s.panTo p q = .ok (s.withStaged { s.view.staged with cx := cx, cy := cy, author := some p }) (be16 cx ++ be16 cy) := by
  have hcx : clampNat 0 3839 (argU16 q.args 0) = cx := by
    rw [hq, hx]; exact clampNat_zero 3839 _
  have hcy : clampNat 0 2879 (argU16 q.args 2) = cy := by
    rw [hq, hy]; exact clampNat_zero 2879 _
  simp only [State.panTo, hcx, hcy]

theorem panBy_staged {cx cy : Nat} (hq : q.args = [a, b, c, d])
    (hx : (cx : Int) = max 0 (min 3839 ((s.view.staged.cx : Int) + (a ++ b : BitVec 16).toInt)))
    (hy : (cy : Int) = max 0 (min 2879 ((s.view.staged.cy : Int) + (c ++ d : BitVec 16).toInt))) :
    s.panBy p q = .ok (s.withStaged { s.view.staged with cx := cx, cy := cy, author := some p }) (be16 cx ++ be16 cy) := by
  have hcx : clampInt 0 3839 ((s.view.staged.cx : Int) + argS16 q.args 0) = cx := by
    rw [hq, argS16_of_argU16 (a := a) (b := b) rfl]; exact clampInt_eq_of hx (by decide)
  have hcy : clampInt 0 2879 ((s.view.staged.cy : Int) + argS16 q.args 2) = cy := by
    rw [hq, argS16_of_argU16 (a := c) (b := d) rfl]; exact clampInt_eq_of hy (by decide)
  simp only [State.panBy, hcx, hcy]

theorem sourcePage_stored {kind : Source} {j : SlotId} {tag : PageTag} {data : PageData} {slot : Byte}
    (hj : slot.toNat = j.val) (h : s.store.page j = .stored tag data) :
    s.sourcePage p kind slot.toNat tag.serial = .ok (s.withStaged { s.view.staged with
      source := kind, page := some { slot := j, serial := tag.serial }, author := some p }) [] := by
  simp only [State.sourcePage, slotOf_eq_some hj, storedWith_eq_some h]

theorem sourcePage_noSlot {kind : Source} {slot : Byte} (n : Nat) (h : 20 ≤ slot) :
    s.sourcePage p kind slot.toNat n = .plain s .noPage := by
  simp only [State.sourcePage, slotOf_eq_none h]

theorem sourcePage_notStored {kind : Source} {j : SlotId} {slot : Byte} {n : Nat} (hj : slot.toNat = j.val)
    (h : ∀ (tag : PageTag) (data : PageData), s.store.page j = .stored tag data → tag.serial ≠ n) :
    s.sourcePage p kind slot.toNat n = .plain s .noPage := by
  simp only [State.sourcePage, slotOf_eq_some hj, storedWith_eq_none h]

/-- SET_SOURCE with a source above 2 (R65). -/
theorem setSource_refused (hq : q.args = [a, b, c, d]) (h : 2 < a) : s.setSource p q = .plain s .badArgument := by
  have hnone : Source.ofCode (argByte q.args 0) = none := source_ofCode_none (by rw [hq]; exact BitVec.lt_def.1 h)
  simp only [State.setSource, hnone]

/-- SET_SOURCE to CAMERA names no page (R65). -/
theorem setSource_camera (hq : q.args = [0, b, c, d]) :
    s.setSource p q =
      .ok (s.withStaged { s.view.staged with source := .camera, page := none, author := some p }) [] := by
  rw [State.setSource, hq]
  rfl

/-- SET_SOURCE to PAGE or SPLIT asks for the page of its slot and serial (R65). -/
theorem setSource_page {kind : Source} (hq : q.args = [a, b, c, d]) (h : (a = 1 ∧ kind = .page) ∨ (a = 2 ∧ kind = .split)) :
    s.setSource p q = s.sourcePage p kind b.toNat (256 * c.toNat + d.toNat) := by
  rw [State.setSource, hq]
  rcases h with ⟨rfl, rfl⟩ | ⟨rfl, rfl⟩ <;> rfl

end

/-! ### The requests of the holder (R104) -/

/-- The holder's request that stages a view record is answered OK, and changes nothing else but the idle time. -/
theorem serveGated_staged {s : State} {p : Port} {k : Fin 4} {q : Request} {code : Byte} {args : List Byte} {n : Nat}
    (body : Request → State → Answer) {v : ViewRec} {results : List Byte} (h : Hands s p k q code args) (hold : Holding s p)
    (hn : code.toNat = n) (hl : requestLengths code.toNat = some (args.length, args.length))
    (ha : body q (admitted s) = .ok ((admitted s).withStaged v) results) :
    serveGated n p body s = .next
      (({ admitted s with view := { s.view with staged := v } } : State).reply p k q .ok results) :=
  serveGated_answer body h hn hl hold ha rfl

/-- Settles O28, request by request: what each stages, answered to the holder. -/
theorem zoomPanAndBlankRequestsStageTheirFields : Obligations.ZoomPanAndBlankRequestsStageTheirFields := by
  refine ⟨fun s p k q a b c hold => ⟨fun h target glide ht hg => ?_, ?_⟩,
    fun s p k q a b c d hold => ⟨fun h cx cy hx hy => ?_, fun h cx cy hx hy => ?_⟩,
    fun s p k q hold => ⟨fun h => ?_, fun h => ?_⟩⟩
  · exact serveGated_staged (fun q s => s.zoomTo p q) h hold rfl rfl (zoomTo_staged h.args_eq ht hg)
  · rintro h delta target glide rfl ht hg
    exact serveGated_staged (fun q s => s.zoomBy p q) h hold rfl rfl (zoomBy_staged h.args_eq ht hg)
  · exact serveGated_staged (fun q s => s.panTo p q) h hold rfl rfl (panTo_staged h.args_eq hx hy)
  · exact serveGated_staged (fun q s => s.panBy p q) h hold rfl rfl (panBy_staged h.args_eq hx hy)
  · exact serveGated_staged (fun _ s => s.setBlank p true) h hold rfl rfl rfl
  · exact serveGated_staged (fun _ s => s.setBlank p false) h hold rfl rfl rfl

/-- Settles O29, by the source byte, and for PAGE and SPLIT by the slot and its record. -/
theorem setSourceStagesTheSource : Obligations.SetSourceStagesTheSource := by
  intro s p k q source slot a b h hold
  have hplain : ∀ status, (admitted s).setSource p q = .plain (admitted s) status →
      exec (.setSource p) s = .next ((admitted s).reply p k q status []) := fun status ha =>
    serveGated_answer (fun q s => s.setSource p q) h rfl rfl hold ha rfl
  refine ⟨fun hs => hplain _ (setSource_refused h.args_eq hs), ?_, fun kind hkind => ?_⟩
  · rintro rfl
    exact serveGated_staged (fun q s => s.setSource p q) h hold rfl rfl (setSource_camera h.args_eq)
  · have hpage := setSource_page (s := admitted s) (p := p) h.args_eq hkind
    refine ⟨fun hslot => hplain _ (hpage.trans (sourcePage_noSlot _ hslot)), fun j hj => ⟨fun tag data hstored hserial => ?_,
      fun hother => hplain _ (hpage.trans (sourcePage_notStored hj hother))⟩⟩
    rw [← hserial] at hpage
    exact serveGated_staged (fun q s => s.setSource p q) h hold rfl rfl (hpage.trans (sourcePage_stored hj hstored))

end Sys2Proof.Statements

/-! SUPPORT. Commits: the windows in the words of the statements, the view an output frame start leaves, and a glide over several of
them. -/
namespace Sys2Proof.Statements

open Sys2Proof.Machine

/-! ### Windows (R72–R76) -/

/-- The area the camera window is computed for: the full one, or half its width in SPLIT (R72). -/
theorem cameraArea_eq (mode : OutputMode) (source : Source) :
    cameraArea mode source =
      (if source = .split then (fullArea mode).1 / 2 else (fullArea mode).1, (fullArea mode).2) := by
  cases mode <;> cases source <;> rfl

/-- A number less its rest of the division by 4 is the number rounded down to a multiple of 4. -/
theorem sub_mod_four (x : Nat) : x - x % 4 = x / 4 * 4 := by omega

theorem windowOf_w (aw ah zoom cx cy : Nat) : (windowOf aw ah zoom cx cy).w = windowWidth aw ah zoom := by
  simp only [windowOf, windowWidth, baseWidth, sub_mod_four, Nat.mul_comm 100]

theorem windowOf_h (aw ah zoom cx cy : Nat) : (windowOf aw ah zoom cx cy).h = windowHeight aw ah zoom := by
  have hrounded : (windowOf aw ah zoom cx cy).h = (windowOf aw ah zoom cx cy).w * ah / aw / 4 * 4 := sub_mod_four _
  rw [hrounded, windowOf_w, windowHeight]

/-- The first column or line of a window: the rounded place, kept inside the frame (R74). -/
theorem clampInt_edge {size extent : Nat} (x : Int) (h : extent ≤ size) :
    clampInt 0 (size - extent) (roundDown4 x) = (max 0 (min ((size : Int) - (extent : Int)) (x - x % 4))).toNat := by
  have hclamp := clampInt_eq 0 (size - extent) (roundDown4 x) (Nat.zero_le _)
  unfold roundDown4 at hclamp ⊢
  omega

/-- The camera window of the model is the one of the statements, where it is no larger than the frame (R73–R75). -/
theorem cameraWindow_eq {aw ah zoom cx cy : Nat} (hw : (windowOf aw ah zoom cx cy).w ≤ 3840)
    (hh : (windowOf aw ah zoom cx cy).h ≤ 2880) : cameraWindow (aw, ah) zoom cx cy = windowOf aw ah zoom cx cy := by
  unfold cameraWindow
  dsimp only
  rw [← windowOf_w aw ah zoom cx cy, ← windowOf_h aw ah zoom cx cy, clampInt_edge _ hw, clampInt_edge _ hh, windowStep,
    Nat.mul_comm 65536]
  rfl

/-- The page-area window is that of a half area at zoom 100 around the middle of the frame (R76). -/
theorem pageWindow_eq (mode : OutputMode) :
    pageWindow mode = windowOf ((fullArea mode).1 / 2) (fullArea mode).2 100 1920 1440 := by
  cases mode <;> decide

/-! ### The view after an output frame start (R70, R71, R79) -/

theorem exec_outputFrameStart_view (s : State) : ∃ t, exec .outputFrameStart s = .next t ∧ t.view = committedView s := by
  refine ⟨s.commitAndBegin.countOutputFrame, rfl, ?_⟩
  rw [← view_commitAndBegin]
  simp

/-- The moved flag stays set only while the zoom is on its way (R79). -/
theorem moved_committedView (s : State) :
    (committedView s).moved = ((s.view.moved || !(committedView s).camera.sameRect s.view.camera) &&
      decide ((committedView s).zoom ≠ s.view.staged.target)) := by
  have hclear : ∀ moved still : Bool, (moved && !(moved && still)) = (moved && !still) := by decide
  rw [decide_not]
  exact hclear _ _

/-- Settles O31: the windows are those of the statements, and the commit's view is read off field by field. -/
theorem commitComputesTheActiveView : Obligations.CommitComputesTheActiveView := by
  intro s aw ah zoom win record haw hah hzoom hwin hw hh hrecord
  obtain ⟨t, ht, hview⟩ := exec_outputFrameStart_view s
  refine ⟨t, ht, ?_⟩
  have hnext : (committedView s).zoom = zoom := hzoom.symm
  have hcamera : (committedView s).camera = win := by
    show cameraWindow (cameraArea s.feed.mode s.view.staged.source) (committedView s).zoom _ _ = _
    rw [hnext, cameraArea_eq, ← haw, ← hah, hwin]
    rw [hwin] at hw hh
    exact cameraWindow_eq hw hh
  have hsettled : (committedView s).staged = record := by
    rw [hrecord, ← hcamera]
    rfl
  have hpage : (committedView s).pageArea =
      if s.view.staged.source = .split then some (windowOf aw ah 100 1920 1440) else none := by
    show (if s.view.staged.source = .split then some (pageWindow s.feed.mode) else none) = _
    by_cases hsplit : s.view.staged.source = .split
    · rw [if_pos hsplit, if_pos hsplit, pageWindow_eq, haw, if_pos hsplit, hah]
    · rw [if_neg hsplit, if_neg hsplit]
  have hmoved := moved_committedView s
  rw [hnext, hcamera, Window.sameRect, ← decide_not] at hmoved
  rw [hview, ← hmoved, ← hpage, ← hcamera, ← hnext, ← hsettled]
  rfl

/-! ### A glide (R71) -/

theorem glideStep_up {current target glide : Nat} (hg : 0 < glide) (h : current ≤ target) :
    glideStep current target glide = min (current + glide) target := by
  unfold glideStep
  rw [if_neg (by omega)]
  split <;> omega

theorem glideStep_down {current target glide : Nat} (hg : 0 < glide) (h : target ≤ current) :
    glideStep current target glide = max (current - glide) target := by
  unfold glideStep
  rw [if_neg (by omega), if_neg (by omega)]

/-- Settles O32, by induction on the number of output frame starts: each moves the zoom one step toward the target. -/
theorem glideReachesItsTarget : Obligations.GlideReachesItsTarget := by
  intro n
  induction n with
  | zero =>
    intro s _
    exact ⟨s, rfl, rfl, rfl, fun h => by omega, fun h => by omega⟩
  | succ n ih =>
    intro s hglide
    obtain ⟨u, hu, hview⟩ := exec_outputFrameStart_view s
    have htarget : u.view.staged.target = s.view.staged.target := by rw [hview]; rfl
    have hstep : u.view.staged.glide = s.view.staged.glide := by rw [hview]; rfl
    have hzoom : u.view.zoom = glideStep s.view.zoom s.view.staged.target s.view.staged.glide := by rw [hview]; rfl
    obtain ⟨t, ht, httarget, htglide, hup, hdown⟩ := ih u (hstep ▸ hglide)
    rw [htarget, hstep, hzoom] at hup hdown
    refine ⟨t, ?_, httarget.trans htarget, htglide.trans hstep, fun h => ?_, fun h => ?_⟩
    · rw [List.replicate_succ, runAll, hu]
      exact ht
    · rw [glideStep_up hglide h] at hup
      rw [hup (by omega), Nat.succ_mul]
      omega
    · rw [glideStep_down hglide h] at hdown
      rw [hdown (by omega), Nat.succ_mul]
      omega

end Sys2Proof.Statements

/-! SUPPORT. The output picture: the samples, the taps and the passes in the words of the statement, what an area sends for a pair,
and the lines and pairs of the link. -/
namespace Sys2Proof.Statements

open Sys2Proof.Machine

/-! ### Samples of the decimated planes (R1, R94) -/

/-- Place of a plane's sample of column `u` in its line (R1). -/
def placeOf : Plane → Nat → Nat
  | .luma => fun u => 2 * u
  | .cb => fun u => 4 * u + 1
  | .cr => fun u => 4 * u + 3

/-- The byte at an offset in a line of buffer `b` (R1). -/
def lineByte (m : List Host.Cell) (b : BufId) (line offset : Nat) : Nat :=
  (Memory.read m (22118400 * b.val + 7680 * line + offset)).toNat

/-- Sample `u` of line `v` of the decimated plane whose samples stand at `place` (R94). -/
def sampleAt (m : List Host.Cell) (b : BufId) (d : Nat) (place : Nat → Nat) (u v : Nat) : Nat :=
  if d = 1 then lineByte m b v (place u)
  else (lineByte m b (2 * v) (place (2 * u)) + lineByte m b (2 * v) (place (2 * u + 1))
    + lineByte m b (2 * v + 1) (place (2 * u)) + lineByte m b (2 * v + 1) (place (2 * u + 1)) + 2) / 4

theorem planeSample_eq (m : List Host.Cell) (b : BufId) (plane : Plane) (u v : Nat) :
    planeSample m b plane u v = lineByte m b v (placeOf plane u) := by
  cases plane <;> rfl

/-- The decimated plane of the model is the one of the statement, for both decimations (R94). -/
theorem decimated_eq {m : List Host.Cell} {b : BufId} {plane : Plane} {d : Nat} (hd : d = 1 ∨ d = 2) (u v : Nat) :
    decimated m b plane d u v = sampleAt m b d (placeOf plane) u v := by
  rcases hd with rfl | rfl
  · simp [decimated, sampleAt, planeSample_eq]
  · simp [decimated, sampleAt, planeSample_eq, List.range_succ, Nat.add_assoc]

theorem lineByte_le (m : List Host.Cell) (b : BufId) (line offset : Nat) : lineByte m b line offset ≤ 255 :=
  Nat.le_of_lt_succ (BitVec.isLt _)

theorem sampleAt_le (m : List Host.Cell) (b : BufId) (d : Nat) (place : Nat → Nat) (u v : Nat) :
    sampleAt m b d place u v ≤ 255 := by
  have hbyte := lineByte_le m b
  unfold sampleAt
  split
  · exact hbyte v (place u)
  · have h00 := hbyte (2 * v) (place (2 * u))
    have h10 := hbyte (2 * v) (place (2 * u + 1))
    have h01 := hbyte (2 * v + 1) (place (2 * u))
    have h11 := hbyte (2 * v + 1) (place (2 * u + 1))
    omega

/-! ### Taps and passes (R96–R98) -/

/-- A column or line clamped to a plane of `size` of them (R96). -/
def clampTap (t : Int) (size : Nat) : Nat := (max 0 (min t ((size : Int) - 1))).toNat

theorem tapAt_eq {size : Nat} (h : 0 < size) (p k : Nat) : tapAt p k size = clampTap ((p : Int) + ((k : Int) - 1)) size := by
  have hclamp := clampInt_eq 0 (size - 1) ((p : Int) - 1 + (k : Int)) (Nat.zero_le _)
  unfold tapAt clampTap
  omega

/-- One pass of four taps over the samples at −1, 0, +1 and +2 (R96). -/
def fourPass (phase : Nat) (f : Int → Nat) : Nat := fourTap phase ((List.range 4).map fun t => f ((t : Int) - 1))

/-- One pass of two taps over the samples at 0 and +1 (R98). -/
def twoPass (phase : Nat) (f : Nat → Nat) : Nat := twoTap phase (f 0) (f 1)

/-- Every phase has four coefficients (R97). -/
theorem coefficients_four (phase : Nat) : ∃ c0 c1 c2 c3 : Int, coefficients phase = [c0, c1, c2, c3] := by
  unfold coefficients
  split <;> exact ⟨_, _, _, _, rfl⟩

theorem fourPass_eq (phase : Nat) (f : Int → Nat) {c0 c1 c2 c3 : Int} (h : coefficients phase = [c0, c1, c2, c3]) :
    (fourPass phase f : Int) = max 0 (min 255 ((c0 * f (-1) + c1 * f 0 + c2 * f 1 + c3 * f 2 + 64) / 128)) := by
  have hsum : (List.zipWith (fun (c : Int) (t : Nat) => c * (t : Int)) (coefficients phase)
      ((List.range 4).map fun t => f ((t : Int) - 1))).sum = c0 * f (-1) + c1 * f 0 + c2 * f 1 + c3 * f 2 := by
    rw [h]
    simp [List.range_succ, add_assoc]
  rw [fourPass, fourTap, hsum, clampInt_eq 0 255 _ (by decide)]
  rfl

theorem fourPass_le (phase : Nat) (f : Int → Nat) : fourPass phase f ≤ 255 := (clampInt_mem 0 255 _ (by decide)).2

theorem twoPass_le {phase : Nat} {f : Nat → Nat} (hp : phase ≤ 16) (hf : ∀ t, f t ≤ 255) : twoPass phase f ≤ 255 := by
  have hfirst : (16 - phase) * f 0 ≤ (16 - phase) * 255 := Nat.mul_le_mul_left _ (hf 0)
  have hsecond : phase * f 1 ≤ phase * 255 := Nat.mul_le_mul_left _ (hf 1)
  unfold twoPass twoTap
  omega

/-! ### The pair of a picture (R95–R98) -/

section
variable {m : List Host.Cell} {b : BufId} {win : Window}

theorem outputLuma_eq (hd : win.d = 1 ∨ win.d = 2) (i j : Nat) {x y : Nat}
    (hx : x = win.x0 / win.d * 65536 + i * win.step) (hy : y = win.y0 / win.d * 65536 + j * win.step) :
    outputLuma m b win i j = fourPass (y / 4096 % 16) fun dy => fourPass (x / 4096 % 16) fun dx =>
      sampleAt m b win.d (placeOf .luma) (clampTap ((x / 65536 : Nat) + dx) (3840 / win.d))
        (clampTap ((y / 65536 : Nat) + dy) (2880 / win.d)) := by
  have hcolumns : 0 < 3840 / win.d := by rcases hd with h | h <;> rw [h] <;> decide
  have hlines : 0 < 2880 / win.d := by rcases hd with h | h <;> rw [h] <;> decide
  unfold outputLuma
  simp only [tapAt_eq hcolumns, tapAt_eq hlines, decimated_eq hd, Nat.mul_comm 65536, ← hx, ← hy]
  rfl

theorem outputChroma_eq (hd : win.d = 1 ∨ win.d = 2) (plane : Plane) (k j : Nat) {x y : Nat}
    (hx : x = (win.x0 / win.d * 65536 + 2 * k * win.step) / 2) (hy : y = win.y0 / win.d * 65536 + j * win.step) :
    outputChroma m b plane win k j = twoPass (y / 4096 % 16) fun dy => twoPass (x / 4096 % 16) fun dx =>
      sampleAt m b win.d (placeOf plane) (min (x / 65536 + dx) (1920 / win.d - 1))
        (min (y / 65536 + dy) (2880 / win.d - 1)) := by
  unfold outputChroma
  simp only [decimated_eq hd, Nat.mul_comm 65536, ← hx, ← hy]
  rfl

end

theorem toNat_byte1 {n : Nat} (h : n ≤ 255) : (byte1 n).toNat = n := Nat.mod_eq_of_lt (Nat.lt_succ_of_le h)

/-- The pair an area sends of its picture is the scaled one of the statement. -/
theorem picturePair_scaled (m : List Host.Cell) (b : BufId) {win : Window} (hd : win.d = 1 ∨ win.d = 2) (j k : Nat) :
    ScaledPair m b win j k (picturePair m b win j k) := by
  intro byteAt sample tap hbyte hsample htap
  obtain rfl : byteAt = lineByte m b := funext₂ hbyte
  obtain rfl : sample = sampleAt m b win.d := funext₃ hsample
  obtain rfl : tap = clampTap := funext₂ htap
  refine ⟨fun i luma hi x y pass hx hy hpass => ?_, fun offset chroma ho x y pass hx hy hpass => ?_⟩
  · obtain rfl : pass = fourPass := funext₂ fun phase f => by
      obtain ⟨c0, c1, c2, c3, hc⟩ := coefficients_four phase
      exact Int.natCast_inj.1 ((hpass phase f c0 c1 c2 c3 hc).trans (fourPass_eq phase f hc).symm)
    have hluma : luma = byte1 (outputLuma m b win i j) := by
      rcases hi with ⟨rfl, rfl⟩ | ⟨rfl, rfl⟩ <;> rfl
    rw [hluma, outputLuma_eq hd i j hx hy]
    exact toNat_byte1 (fourPass_le _ _)
  · obtain rfl : pass = twoPass := funext₂ hpass
    have hphase : ∀ n : Nat, n / 4096 % 16 ≤ 16 := fun n => by omega
    obtain ⟨plane, hplace, hchroma⟩ : ∃ plane, placeOf plane = (fun u => 4 * u + offset) ∧
        chroma = byte1 (outputChroma m b plane win k j) := by
      rcases ho with ⟨rfl, rfl⟩ | ⟨rfl, rfl⟩
      · exact ⟨.cb, rfl, rfl⟩
      · exact ⟨.cr, rfl, rfl⟩
    rw [hchroma, outputChroma_eq hd plane k j hx hy, ← hplace]
    exact toNat_byte1 (twoPass_le (hphase y) fun _ => twoPass_le (hphase x) fun _ => sampleAt_le ..)

/-! ### What an area sends (R72, R93, R100) -/

section
variable {a : Area} {m : List Host.Cell} {win : Window} {j k whole : Nat} {b : BufId} {place : FaultPlace}

theorem pair_black (h : a.showing = .blackState ∨ a.showing = .blackBlank ∨ a.showing = .blackNoFrame) :
    a.pair m win j k whole = blackPair := by
  unfold Area.pair
  rcases h with h | h | h <;> rw [h]

theorem pair_picture (h : a.showing = .picture) (hb : a.pin = some b) :
    a.pair m win j k whole = picturePair m b win j k := by
  unfold Area.pair
  rw [h, hb]

/-- After a read fault an area sends its picture before the place of the fault and black from it on (R100). -/
theorem pair_blackFault (h : a.showing = .blackFault) (hb : a.pin = some b) (hf : a.fault = some place) :
    a.pair m win j k whole =
      if j < place.line ∨ (j = place.line ∧ whole < place.pair) then picturePair m b win j k else blackPair := by
  unfold Area.pair
  rw [h, hb, hf]

end

/-- A pair of an output line is sent by the area it lies in, and is black where that area has no window. -/
theorem areaPair_eq {s : State} {k col : Nat} {a : Area} {view : Option Window} (h : InArea s s.feed.pairs k a view col)
    (j : Nat) : s.areaPair j k = view.elim blackPair fun win => a.pair s.mem win j col k := by
  unfold State.areaPair
  rcases h with ⟨hsource, rfl, rfl, rfl⟩ | ⟨-, hleft, rfl, rfl, rfl⟩ | ⟨hsource, hright, rfl, rfl, hcol⟩
  · exact if_neg fun hright => hsource hright.1
  · exact if_neg fun hright => Nat.not_le.2 hleft hright.2
  · obtain rfl : col = k - s.feed.pairs / 2 := by omega
    rw [if_pos ⟨hsource, hright⟩]
    cases s.view.pageArea <;> rfl

/-! ### Lines and pairs of the link (R82, R84) -/

/-- The figures of a mode: its lines and the pairs of each, while the link is driven (R82, R84). -/
theorem lines_and_pairs {f : Feed} {w h : Nat} (hs : f.state ≠ .detached) (hm : fullArea f.mode = (w, h)) :
    f.lines = h ∧ f.pairs = w / 2 := by
  have hsize : f.mode.size = (w, h) := by rw [← hm]; cases f.mode <;> rfl
  refine ⟨?_, by rw [Feed.pairs, hsize]⟩
  unfold Feed.lines
  split
  · next hdetached => exact absurd hdetached hs
  · rw [hsize]

theorem outputFrame_detached {s : State} (h : s.feed.state = .detached) : s.outputFrame = [] := by
  simp [State.outputFrame, Feed.lines, h]

theorem outputPair_outside {s : State} {j k : Nat} (h : s.feed.lines ≤ j ∨ s.feed.pairs ≤ k) : s.outputPair j k = none :=
  if_neg (by omega)

/-- The frame on the link is its pairs, line by line (R82). -/
theorem outputFrame_pairs (s : State) :
    s.outputFrame.map (fun line => line.map some) =
      (List.range s.feed.lines).map fun line => (List.range s.feed.pairs).map fun pair => s.outputPair line pair := by
  unfold State.outputFrame State.outputLine
  rw [List.map_map]
  refine List.map_congr_left fun line hline => ?_
  rw [Function.comp_apply, List.map_map]
  exact List.map_congr_left fun pair hpair =>
    (s.outputPair_inside line pair (List.mem_range.1 hline) (List.mem_range.1 hpair)).symm

/-- Settles O37: the lines and pairs of the link, then the pair of an area by what the area shows. -/
theorem outputPictureIsTheScaledBuffer : Obligations.OutputPictureIsTheScaledBuffer := by
  refine ⟨rfl, fun s w h j k hmode => ⟨fun hs => ⟨s.outputPair_detached j k hs, outputFrame_detached hs⟩, fun hs => ?_⟩,
    fun s w h j k a view col hs hmode hj hk harea => ?_⟩
  · obtain ⟨rfl, hpairs⟩ := lines_and_pairs hs hmode
    rw [← hpairs]
    exact ⟨outputPair_outside, outputFrame_pairs s⟩
  · obtain ⟨rfl, hpairs⟩ := lines_and_pairs hs hmode
    rw [← hpairs] at hk harea
    have hout : s.outputPair j k = some (view.elim blackPair fun win => a.pair s.mem win j col k) := by
      rw [s.outputPair_inside j k hj hk, areaPair_eq harea]
    refine ⟨fun hblack => ?_, fun b win hb hview hd =>
      ⟨fun hshow => ?_, fun place hshow hfault => ⟨fun hbefore => ?_, fun hfrom => ?_⟩⟩⟩
    · rw [hout]
      cases view with
      | none => rfl
      | some win => exact congrArg some (pair_black hblack)
    all_goals subst hview
    · exact ⟨_, hout.trans (congrArg some (pair_picture hshow hb)), picturePair_scaled s.mem b hd j col⟩
    · have hpair := (pair_blackFault (m := s.mem) (win := win) (k := col) hshow hb hfault).trans (if_pos hbefore)
      exact ⟨_, hout.trans (congrArg some hpair), picturePair_scaled s.mem b hd j col⟩
    · exact hout.trans (congrArg some ((pair_blackFault hshow hb hfault).trans (if_neg (by omega))))

end Sys2Proof.Statements

/-! SUPPORT. Releases of pins: what a release does to the pool and the page store, and the newest complete buffer and the pages that it
leaves. -/
namespace Sys2Proof.Machine

/-! ### The newest complete buffer (section 1.4) -/

/-- The newest complete buffer depends on the ring list and the complete flags of its buffers alone. -/
theorem Pool.newest_congr {p q : Pool} (hring : q.ring = p.ring)
    (hflag : ∀ x ∈ p.ring, (q.bufRec x).complete = (p.bufRec x).complete) : q.newest = p.newest := by
  have hsame : ∀ x ∈ p.ring, q.isComplete x = p.isComplete x := fun x hx => congrArg Option.isSome (hflag x hx)
  rw [Pool.newest, hring, List.filter_congr hsame, Pool.newest]

/-- Another record for a buffer leaves the newest complete one, where the buffer is not in the ring. -/
theorem Pool.newest_setRec (p : Pool) {b : BufId} (r : BufRec) (hb : b ∉ p.ring) : (p.setRec b r).newest = p.newest :=
  Pool.newest_congr rfl fun x hx => by rw [Pool.bufRec_setRec_other _ _ _ _ (ne_of_mem_of_not_mem hx hb)]

/-- A buffer joins the ring at the front and not complete, so it is never the newest complete one (R5, R6). -/
theorem Pool.newest_joinRing (p : Pool) {b : BufId} (hb : b ∉ p.ring) : (p.joinRing b).newest = p.newest := by
  have hfirst : (p.joinRing b).isComplete b = false := by simp [Pool.isComplete, Pool.bufRec_joinRing]
  have hrest : (p.setRec b { p.bufRec b with role := .ring, complete := none }).newest = p.newest := p.newest_setRec _ hb
  rw [← hrest, Pool.newest, Pool.ring_joinRing, List.filter_cons_of_neg (by simp [hfirst])]
  rfl

/-- A buffer freed from outside the ring leaves the newest complete one (R6, R11). -/
theorem Pool.newest_setFree (p : Pool) {b : BufId} (hb : b ∉ p.ring) : (p.setFree b).newest = p.newest := by
  rcases Nat.lt_or_ge p.ring.length 3 with hs | hs
  · rw [p.setFree_short b hs, p.newest_joinRing hb]
  · rw [p.setFree_full b hs, p.newest_setRec _ hb]

theorem Pool.newest_release (p : Pool) {b : BufId} (hb : b ∉ p.ring) : (p.release b).newest = p.newest := by
  by_cases hp : (p.bufRec b).pins = 0
  · rw [p.release_unpinned b hp, p.newest_setFree hb]
  · rw [p.release_pinned b hp, p.newest_setRec _ hb]

/-- A release of a pin frees a RETIRING buffer at most, which is not in the ring (R12, R13). -/
theorem Pool.RingOk.newest_unpin {p : Pool} (h : p.RingOk) (b : BufId) : (p.unpin b).newest = p.newest := by
  have hlow : (p.setRec b { p.bufRec b with pins := (p.bufRec b).pins - 1 }).newest = p.newest := by
    refine Pool.newest_congr rfl fun x _ => ?_
    rw [Pool.bufRec_setRec]
    split
    · next hx => rw [hx]
    · rfl
  by_cases hk : (p.bufRec b).pins - 1 = 0 ∧ (p.bufRec b).role = .retiring
  · obtain ⟨hpins, hrole⟩ := hk
    have hout : b ∉ p.ring := fun hb => by simp [(h.mem_iff b).1 hb] at hrole
    rw [p.unpin_retiring b hpins hrole]
    refine (Pool.newest_setFree _ ?_).trans hlow
    exact hout
  · rw [p.unpin_kept b (by tauto), hlow]

/-! ### A release of a pin at the pool and the page store (R12, R13, R135) -/

/-- A release of a pin is the pool's own, or frees the PAGE buffer of a DISCARDING record and announces it. -/
theorem State.unpin_cases (s : State) (b : BufId) :
    s.unpin b = s.withPool (s.pool.unpin b) ∨
      ∃ k tag data by_, s.store.page k = .discarding tag data by_ ∧ data.buffer = b ∧
        ((s.pool.unpin b).bufRec b).pins = 0 ∧ ((s.pool.unpin b).bufRec b).role = .page ∧
        s.unpin b = ((s.withStore (s.store.setPage k .empty)).withPool ((s.pool.unpin b).release b)).postAll
          (.pageDiscarded k tag.serial by_) none := by
  by_cases hpage : ((s.pool.unpin b).bufRec b).pins = 0 ∧ ((s.pool.unpin b).bufRec b).role = .page
  · have hgone : s.unpin b = (s.withPool (s.pool.unpin b)).pinsGone b := if_pos hpage
    obtain ⟨hpins, hrole⟩ := hpage
    cases hfound : s.store.discardingOf b with
    | none => exact .inl (by rw [hgone, State.pinsGone, State.store_withPool, hfound])
    | some found =>
      obtain ⟨k, serial, by_⟩ := found
      obtain ⟨tag, data, hk, hb, rfl⟩ := Store.discardingOf_some hfound
      refine .inr ⟨k, tag, data, by_, hk, hb, hpins, hrole, ?_⟩
      rw [hgone, State.pinsGone, State.store_withPool, hfound]
      rfl
  · exact .inl (if_neg hpage)

/-- A release of a pin keeps the ring and the newest complete buffer. -/
theorem State.newest_unpin {s : State} (h : s.pool.RingOk) (b : BufId) :
    (s.unpin b).pool.RingOk ∧ (s.unpin b).pool.newest = s.pool.newest := by
  have hring := h.unpin b
  have hnewest := h.newest_unpin b
  rcases s.unpin_cases b with heq | ⟨k, tag, data, by_, -, -, -, hrole, heq⟩
  · rw [heq]
    exact ⟨hring, hnewest⟩
  · have hout : ((s.pool.unpin b).bufRec b).role ≠ .ring := by simp [hrole]
    have hpool : (s.unpin b).pool = (s.pool.unpin b).release b := by
      rw [heq]
      rfl
    rw [hpool]
    exact ⟨hring.release hout, (Pool.newest_release _ (mt (hring.mem_iff b).1 hout)).trans hnewest⟩

theorem State.newest_unpin? {s : State} (h : s.pool.RingOk) (o : Option BufId) :
    (s.unpin? o).pool.RingOk ∧ (s.unpin? o).pool.newest = s.pool.newest := by
  cases o with
  | none => exact ⟨h, rfl⟩
  | some b => exact State.newest_unpin h b

/-- A release of a pin frees a DISCARDING record at most, so a STORED page stays (R135). -/
theorem State.stored_unpin? {s : State} {k : SlotId} {tag : PageTag} {data : PageData} (h : s.store.page k = .stored tag data)
    (o : Option BufId) : (s.unpin? o).store.page k = .stored tag data := by
  cases o with
  | none => exact h
  | some b =>
    show (s.unpin b).store.page k = _
    rcases s.unpin_cases b with heq | ⟨j, tag', data', by_, hj, -, -, -, heq⟩
    · rw [heq]
      exact h
    · have hne : k ≠ j := by
        rintro rfl
        simp [h] at hj
      rw [heq]
      show (s.store.setPage j .empty).page k = _
      rw [Store.page_setPage, if_neg hne, h]

end Sys2Proof.Machine

/-! SUPPORT. Frame begins: the areas of a frame that begins in RUNNING, and the feed record that a frame begin leaves, in the words of
the statements. -/
namespace Sys2Proof.Statements

open Sys2Proof.Machine

/-! ### The sources of the committed view (R91) -/

/-- The pins of the frame before are released: the newest complete buffer is the one of before (R90). -/
theorem newest_pinsReleased {s : State} (h : s.rolesOk) : (pinsReleased s).pool.newest = s.pool.newest := by
  obtain ⟨hring, hfirst⟩ := State.newest_unpin? (s.rolesOk_iff.1 h).ring s.feed.first.pin
  obtain ⟨-, hsecond⟩ := State.newest_unpin? hring s.feed.second.pin
  exact hsecond.trans hfirst

/-- The camera area shows the HELD buffer when frozen, and otherwise the newest complete one of before the releases. -/
theorem cameraBuffer_beginning {s : State} (h : s.rolesOk) :
    (beginning s).cameraBuffer = if s.view.staged.frozen then s.view.held else s.pool.newest := by
  rw [← newest_pinsReleased h]
  rfl

/-- The page area shows the buffer of the page that the staged view names. -/
theorem pageBuffer_beginning {s : State} {r : PageRef} {tag : PageTag} {data : PageData} (hr : s.view.staged.page = some r)
    (hstored : s.store.page r.slot = .stored tag data) : (beginning s).pageBuffer = some data.buffer := by
  have hpage : (beginning s).view.active.page = some r := hr
  have hkept : (beginning s).store.page r.slot = .stored tag data := by
    rw [beginning_eq]
    exact State.stored_unpin? (State.stored_unpin? hstored _) _
  simp only [State.pageBuffer, hpage, hkept]

section
variable {s : State}

theorem sources_camera (h : s.view.active.source ≠ .page) : s.sources.1 = s.cameraBuffer := by
  unfold State.sources
  split <;> simp_all

theorem sources_page (h : s.view.active.source = .page) : s.sources.1 = s.pageBuffer := by
  simp only [State.sources, h]

theorem sources_split (h : s.view.active.source = .split) : s.sources.2 = some s.pageBuffer := by
  simp only [State.sources, h]

theorem sources_whole (h : s.view.active.source ≠ .split) : s.sources.2 = none := by
  unfold State.sources
  split <;> simp_all

end

/-! ### The areas of a frame that begins in RUNNING (R91, R93) -/

/-- The record of the first area of a frame that begins in RUNNING. -/
def firstShown (s : State) : Area :=
  if s.view.active.blank then { Area.reset with showing := .blackBlank } else Area.showBuffer s.sources.1

/-- The record of the second area. -/
def secondShown (s : State) : Area :=
  if s.view.active.blank then
    if s.view.active.source = .split then { Area.reset with showing := .blackBlank } else Area.reset
  else secondArea s.sources.2

/-- A frame that begins in RUNNING records its two areas, whatever else it finds in the feed record. -/
theorem feed_beginRunning (s : State) :
    s.beginRunning.feed = { s.feed with first := firstShown s, second := secondShown s } := by
  unfold State.beginRunning firstShown secondShown
  split
  · rfl
  · simp [State.pinSources, State.pin?_frame]

/-- An area begins a frame with no fault. -/
theorem fault_firstShown (s : State) : (firstShown s).fault = none := by
  unfold firstShown
  split <;> rfl

theorem fault_secondShown (s : State) : (secondShown s).fault = none := by
  unfold secondShown
  split
  · split <;> rfl
  · cases s.sources.2 <;> rfl

section
variable {s : State}

theorem firstShown_blank (h : s.view.staged.blank = true) :
    firstShown (beginning s) = { Area.reset with showing := .blackBlank } :=
  if_pos h

theorem secondShown_blank (h : s.view.staged.blank = true) :
    secondShown (beginning s) =
      { Area.reset with showing := if s.view.staged.source = .split then .blackBlank else .blackState } := by
  have hblank : (beginning s).view.active.blank = true := h
  rw [secondShown, if_pos hblank]
  show (if s.view.staged.source = .split then _ else _) = _
  split <;> rfl

theorem firstShown_source (h : s.view.staged.blank = false) :
    firstShown (beginning s) = Area.showBuffer (beginning s).sources.1 :=
  if_neg (Bool.eq_false_iff.1 h)

theorem secondShown_source (h : s.view.staged.blank = false) : secondShown (beginning s) = secondArea (beginning s).sources.2 :=
  if_neg (Bool.eq_false_iff.1 h)

/-- The camera area: the full area of CAMERA and the left area of SPLIT. -/
theorem firstShown_camera (hroles : s.rolesOk) (hblank : s.view.staged.blank = false) (h : s.view.staged.source ≠ .page) :
    firstShown (beginning s) = Area.showBuffer (if s.view.staged.frozen then s.view.held else s.pool.newest) := by
  rw [firstShown_source hblank, sources_camera h, cameraBuffer_beginning hroles]

variable {r : PageRef} {tag : PageTag} {data : PageData}

/-- The page area of PAGE, which is the full area. -/
theorem firstShown_page (hblank : s.view.staged.blank = false) (h : s.view.staged.source = .page)
    (hr : s.view.staged.page = some r) (hstored : s.store.page r.slot = .stored tag data) :
    firstShown (beginning s) = Area.showBuffer (some data.buffer) := by
  rw [firstShown_source hblank, sources_page h, pageBuffer_beginning hr hstored]

/-- The page area of SPLIT, which is the right area. -/
theorem secondShown_split (hblank : s.view.staged.blank = false) (h : s.view.staged.source = .split)
    (hr : s.view.staged.page = some r) (hstored : s.store.page r.slot = .stored tag data) :
    secondShown (beginning s) = Area.showBuffer (some data.buffer) := by
  rw [secondShown_source hblank, sources_split h, pageBuffer_beginning hr hstored]
  rfl

theorem secondShown_whole (hblank : s.view.staged.blank = false) (h : s.view.staged.source ≠ .split) :
    secondShown (beginning s) = Area.reset := by
  rw [secondShown_source hblank, sources_whole h]
  rfl

end

/-! ### The feed record after a frame begin (R83, R85) -/

theorem feed_commitAndBegin_detached {s : State} (h : s.feed.state = .detached) : s.commitAndBegin.feed = countedFeed s.feed := by
  have hstate : (beginning s).feed.state = .detached := h
  rw [commitAndBegin_eq]
  simp only [State.beginFrame, hstate]
  rfl

theorem feed_commitAndBegin_starting {s : State} (h : s.feed.state = .starting) (hcount : s.feed.starting < 4) :
    s.commitAndBegin.feed = { countedFeed s.feed with starting := s.feed.starting + 1 } := by
  have hstate : (beginning s).feed.state = .starting := h
  have hbelow : (beginning s).feed.starting < 4 := hcount
  have hrun : (beginning s).beginFrame =
      (beginning s).withFeed { (beginning s).feed with starting := (beginning s).feed.starting + 1 } := by
    simp only [State.beginFrame, hstate, if_pos hbelow]
  rw [commitAndBegin_eq, hrun]
  rfl

theorem feed_commitAndBegin_running {s : State}
    (h : s.feed.state = .running ∨ (s.feed.state = .starting ∧ 4 ≤ s.feed.starting)) :
    s.commitAndBegin.feed = { countedFeed s.feed with
      state := .running, first := firstShown (beginning s), second := secondShown (beginning s) } := by
  rw [commitAndBegin_eq]
  rcases h with h | ⟨h, hcount⟩
  · have hstate : (beginning s).feed.state = .running := h
    have hrun : (beginning s).beginFrame = (beginning s).beginRunning := by simp only [State.beginFrame, hstate]
    rw [hrun, feed_beginRunning, ← h]
    rfl
  · have hstate : (beginning s).feed.state = .starting := h
    have hfull : ¬ (beginning s).feed.starting < 4 := Nat.not_lt.2 hcount
    have hrun : (beginning s).beginFrame = (beginning s).startFeed.beginRunning := by
      simp only [State.beginFrame, hstate, if_neg hfull]
    rw [hrun, feed_beginRunning]
    rfl

/-! ### The frame begin of the statements -/

/-- A frame that begins in RUNNING, or enters it, shows the sources of the view that was staged. -/
theorem frameBegun_running {s : State} (hroles : s.rolesOk)
    (h : s.feed.state = .running ∨ (s.feed.state = .starting ∧ 4 ≤ s.feed.starting)) : FrameBegun s s.commitAndBegin := by
  have hnot : ¬ (s.feed.state = .detached ∨ (s.feed.state = .starting ∧ s.feed.starting < 4)) := by
    rcases h with hrun | ⟨hstart, hfull⟩
    · simp [hrun]
    · simp [hstart, hfull]
  rw [FrameBegun, feed_commitAndBegin_running h]
  refine ⟨rfl, rfl, rfl, rfl, fault_firstShown _, fault_secondShown _, fun hd => absurd (.inl hd) hnot,
    fun hd hcount => absurd (.inr ⟨hd, hcount⟩) hnot, fun hd => absurd hd hnot, fun _ => ⟨rfl, rfl, fun hblank => ?_,
    fun hblank => ⟨fun hsource hfrozen b hheld => ?_, fun hsource hfrozen => ⟨fun b info hnewest => ?_, fun hnone => ?_⟩,
      fun r tag data hr hstored => ⟨fun hsource => ?_, fun hsource => ?_⟩, fun hsource => ?_⟩⟩⟩
  · dsimp only
    rw [firstShown_blank hblank, secondShown_blank hblank]
    exact ⟨rfl, rfl, rfl, rfl⟩
  · dsimp only
    rw [firstShown_camera hroles hblank hsource, if_pos hfrozen, hheld]
    exact ⟨rfl, rfl⟩
  · dsimp only
    rw [firstShown_camera hroles hblank hsource, if_neg (Bool.eq_false_iff.1 hfrozen), hnewest.newest]
    exact ⟨rfl, rfl⟩
  · dsimp only
    rw [firstShown_camera hroles hblank hsource, if_neg (Bool.eq_false_iff.1 hfrozen), newest_eq_none hnone]
    exact ⟨rfl, rfl⟩
  · dsimp only
    rw [firstShown_page hblank hsource hr hstored]
    exact ⟨rfl, rfl⟩
  · dsimp only
    rw [secondShown_split hblank hsource hr hstored]
    exact ⟨rfl, rfl⟩
  · dsimp only
    rw [secondShown_whole hblank hsource]
    exact ⟨rfl, rfl⟩

/-- The frame begin, by the state it finds the feed in (R85). -/
theorem frameBegun_commitAndBegin {s : State} (hroles : s.rolesOk) : FrameBegun s s.commitAndBegin := by
  cases hstate : s.feed.state with
  | detached =>
    rw [FrameBegun, feed_commitAndBegin_detached hstate]
    simp [countedFeed, Area.reset, hstate]
  | starting =>
    by_cases hcount : s.feed.starting < 4
    · rw [FrameBegun, feed_commitAndBegin_starting hstate hcount]
      simp [countedFeed, Area.reset, hstate, hcount]
    · exact frameBegun_running hroles (.inr ⟨hstate, Nat.not_lt.1 hcount⟩)
  | running => exact frameBegun_running hroles (.inl hstate)

/-- Where RUNNING is entered and no pin is released, the notice of the entry is the one the ports take (R87). -/
theorem ports_commitAndBegin_started {s : State} (hstate : s.feed.state = .starting) (hcount : 4 ≤ s.feed.starting)
    (hfirst : s.feed.first.pin = none) (hsecond : s.feed.second.pin = none) :
    s.commitAndBegin.ports = (s.postAll (.feedState .running .starting s.feed.mode .started) none).ports := by
  have hpins : pinsReleased s = s := by
    unfold pinsReleased
    rw [hfirst, hsecond]
    rfl
  have hdue : s.feed.startDue = true := decide_eq_true ⟨hstate, hcount⟩
  obtain ⟨f, hbegin⟩ := commitAndBegin_spec s
  rw [hbegin, if_pos hdue, hpins]

/-- Settles O34: the frame begin of the statements, past the count of OUTPUT_FRAME_START and by itself in FEED_STARTED. -/
theorem frameBeginSettlesTheFeed : Obligations.FrameBeginSettlesTheFeed := by
  intro s hroles
  have hbegun := frameBegun_commitAndBegin hroles
  refine ⟨⟨s.commitAndBegin.countOutputFrame, s.commitAndBegin, rfl, ?_, commitAndBegin_begun s, countOutputFrame_counted _,
    fun hstate hcount hfirst hsecond hstall => ?_⟩, fun hstate hcount => ⟨s.commitAndBegin, ?_, hbegun, commitAndBegin_begun s,
    ports_commitAndBegin_started hstate hcount, ?_⟩⟩
  · have hfeed : s.commitAndBegin.countOutputFrame.feed = s.commitAndBegin.feed := by simp
    rw [FrameBegun, hfeed]
    exact hbegun
  · obtain ⟨hidle, -⟩ := countOutputFrame_counted s.commitAndBegin
    have hports : s.commitAndBegin.countOutputFrame.ports = s.commitAndBegin.ports := by
      rw [hidle (mt (stallDue_commitAndBegin s).1 hstall)]
    rw [hports]
    exact ports_commitAndBegin_started hstate hcount hfirst hsecond
  · show Host.Outcome.next (if s.feed.startDue = true then _ else s) = _
    have hdue : s.feed.startDue = true := decide_eq_true ⟨hstate, hcount⟩
    rw [if_pos hdue]
  · simp

end Sys2Proof.Statements

/-! SUPPORT. Feed events: the projector sense line, SET_OUTPUT_MODE and read faults, in the words of the statements. -/
namespace Sys2Proof.Statements

open Sys2Proof.Machine

/-! ### States entered (R84, R87, R88) -/

/-- The sense line that comes up in DETACHED enters STARTING (R84). -/
theorem exec_sensePresent {s : State} (hstate : s.feed.state = .detached) (hsense : s.feed.sense = false) :
    exec .sensePresent s = .next ((s.withFeed { s.feed.cutTo .starting with sense := true, starting := 0 }).postAll
      (.feedState .starting .detached s.feed.mode .sensePresent) none) := by
  show Host.Outcome.next (if s.feed.sense = true then s else s.enterFeed _ .sensePresent) = _
  rw [if_neg (by simp [hsense]), State.enterFeed, hstate]
  rfl

/-- The sense line that goes down enters DETACHED (R84). -/
theorem exec_senseAbsent {s : State} (hsense : s.feed.sense = true) :
    exec .senseAbsent s = .next ((s.withFeed { s.feed.cutTo .detached with sense := false }).postAll
      (.feedState .detached s.feed.state s.feed.mode .senseLost) none) := by
  show Host.Outcome.next (if s.feed.sense = true then s.enterFeed _ .senseLost else s) = _
  rw [if_pos hsense]
  rfl

/-! ### SET_OUTPUT_MODE (R88) -/

/-- A number above 2 names no output mode. -/
theorem outputMode_ofCode_none {n : Nat} (h : 2 < n) : OutputMode.ofCode n = none := by
  obtain ⟨i, rfl⟩ := Nat.exists_eq_add_of_le' h
  rfl

/-- The three mode bytes, read and written. -/
theorem outputMode_ofCode_some {m : Byte} {mode : OutputMode}
    (h : (m = 0 ∧ mode = .mode0) ∨ (m = 1 ∧ mode = .mode1) ∨ (m = 2 ∧ mode = .mode2)) :
    OutputMode.ofCode m.toNat = some mode ∧ byte1 mode.code = m := by
  rcases h with ⟨rfl, rfl⟩ | ⟨rfl, rfl⟩ | ⟨rfl, rfl⟩ <;> exact ⟨rfl, rfl⟩

section
variable {s : State} {q : Request} {m : Byte} {mode : OutputMode}

theorem setOutputMode_refused (hq : q.args = [m]) (h : 2 < m) : s.setOutputMode q = .plain s .badArgument := by
  have hnone : OutputMode.ofCode (argByte q.args 0) = none := outputMode_ofCode_none (by rw [hq]; exact BitVec.lt_def.1 h)
  simp only [State.setOutputMode, hnone]

theorem setOutputMode_same (hq : q.args = [m]) (hm : OutputMode.ofCode m.toNat = some mode) (h : mode = s.feed.mode) :
    s.setOutputMode q = .ok s [byte1 mode.code] := by
  have hsome : OutputMode.ofCode (argByte q.args 0) = some mode := by rw [hq]; exact hm
  simp only [State.setOutputMode, hsome, if_pos h]

theorem setOutputMode_detached (hq : q.args = [m]) (hm : OutputMode.ofCode m.toNat = some mode) (h : mode ≠ s.feed.mode)
    (hstate : s.feed.state = .detached) :
    s.setOutputMode q = .ok (s.withFeed { s.feed with mode := mode }) [byte1 mode.code] := by
  have hsome : OutputMode.ofCode (argByte q.args 0) = some mode := by rw [hq]; exact hm
  simp only [State.setOutputMode, hsome, if_neg h, hstate]

/-- Another mode in STARTING or RUNNING enters STARTING. -/
theorem setOutputMode_entered (hq : q.args = [m]) (hm : OutputMode.ofCode m.toNat = some mode) (h : mode ≠ s.feed.mode)
    (hstate : s.feed.state ≠ .detached) :
    s.setOutputMode q = .ok ((s.withFeed { s.feed.cutTo .starting with mode := mode, starting := 0 }).postAll
      (.feedState .starting s.feed.state mode .modeChange) none) [byte1 mode.code] := by
  have hsome : OutputMode.ofCode (argByte q.args 0) = some mode := by rw [hq]; exact hm
  simp only [State.setOutputMode, hsome, if_neg h]
  rfl

end

/-- Settles O35: the two levels of the sense line, then SET_OUTPUT_MODE by its mode byte and the feed's state. -/
theorem senseLineAndOutputModeEnterStates : Obligations.SenseLineAndOutputModeEnterStates := by
  intro s entered hentered
  refine ⟨fun hstate hsense => ?_, fun _ hsense => ?_, fun p k q m hq hold => ⟨fun hm => ?_, fun mode hmode => ?_⟩⟩
  · rw [hentered, exec_sensePresent hstate hsense]
    rfl
  · rw [hentered, exec_senseAbsent hsense]
    rfl
  · exact serveGated_answer (fun q s => s.setOutputMode q) hq rfl rfl hold (setOutputMode_refused hq.args_eq hm) rfl
  · obtain ⟨hcode, hbyte⟩ := outputMode_ofCode_some hmode
    have hanswer : ∀ t : State, (admitted s).setOutputMode q = .ok t [byte1 mode.code] →
        t.tenancy = (admitted s).tenancy → exec (.setOutputMode p) s = .next (t.reply p k q .ok [m]) := by
      intro t ht htenancy
      rw [hbyte] at ht
      exact serveGated_answer (fun q s => s.setOutputMode q) hq rfl rfl hold ht htenancy
    refine ⟨fun hsame => ?_, fun hother hstate => ?_, fun hother hstate => ?_⟩
    · exact hanswer _ (setOutputMode_same hq.args_eq hcode hsame) rfl
    · exact hanswer _ (setOutputMode_detached hq.args_eq hcode hother hstate) rfl
    · rw [hentered]
      exact hanswer _ (setOutputMode_entered hq.args_eq hcode hother hstate) rfl

/-! ### Read faults (R100) -/

/-- The first fault of an area that the active view has, on the buffer it pins. -/
theorem exec_feedReadFault {s : State} {which : FeedArea} {a : Area} {b : BufId} (line pair : Nat)
    (harea : s.area? which = some a) (hpin : a.pin = some b) (hfault : a.fault = none) :
    exec (.feedReadFault which b line pair) s = .next (s.readFault which a b { line := line, pair := pair }) := by
  show execFeedReadFault which b line pair s = _
  have hdue : a.faultDue b = true := decide_eq_true ⟨hpin, hfault⟩
  simp only [execFeedReadFault, harea, if_pos hdue]

/-- Settles O36, by the area: the first record is the full or the left area, the second the right one. -/
theorem feedReadFaultBlackensItsArea : Obligations.FeedReadFaultBlackensItsArea := by
  intro s b line pair faulted hfaulted
  refine ⟨?_, fun hsplit hpin hfault => ?_⟩
  · rintro which (⟨rfl, hsource⟩ | ⟨rfl, hsource⟩) hpin hfault
    · have hfull : s.area? .full = some s.feed.first := if_neg hsource
      rw [hfaulted, exec_feedReadFault line pair hfull hpin hfault]
      rfl
    · have hleft : s.area? .left = some s.feed.first := if_pos hsource
      rw [hfaulted, exec_feedReadFault line pair hleft hpin hfault]
      rfl
  · have hright : s.area? .right = some s.feed.second := if_pos hsplit
    rw [hfaulted, exec_feedReadFault line pair hright hpin hfault]
    rfl

end Sys2Proof.Statements

/-! SUPPORT. Handovers: a handover, the grant to the best waiter and the evaluation of the handover conditions in the words of the
statements, and the requests to the tenancy unit. -/
namespace Sys2Proof.Statements

open Sys2Proof.Machine

/-! ### Handovers (R107, R115, R116) -/

theorem handover_eq (s : State) (r : Tenancy) (cause : TenancyCause) : s.handover r cause = afterHandover s r cause.code := rfl

section
variable {s : State} {h : Port} {w : Waiter} {rest : List Waiter}

/-- The view taken from its holder for the best waiter: both are told. -/
theorem grantBest_taken (hh : s.tenancy.holder = some h) (hw : s.tenancy.waiters = w :: rest) (cause : TenancyCause) :
    s.grantBest cause true = ((afterHandover s { holder := some w.port, holdFast := w.holdFast, singleUse := w.singleUse, idle := 0,
                                                 waiters := rest } cause.code).post h (.viewLost cause w.port)).post w.port
      (.viewGranted (some h) w.holdFast w.singleUse cause) := by
  simp only [State.grantBest, hh, hw, handover_eq, if_true]

/-- The view given up by its holder to the best waiter, which is told. -/
theorem grantBest_given (hh : s.tenancy.holder = some h) (hw : s.tenancy.waiters = w :: rest) (cause : TenancyCause) :
    s.grantBest cause false = (afterHandover s { holder := some w.port, holdFast := w.holdFast, singleUse := w.singleUse, idle := 0,
                                                 waiters := rest } cause.code).post w.port
      (.viewGranted (some h) w.holdFast w.singleUse cause) := by
  simp only [State.grantBest, hh, hw, handover_eq, Bool.false_eq_true, if_false]

/-! ### The evaluation (R108, R109, R111) -/

/-- The evaluation stops where no condition holds. -/
theorem settle_of_due_none (hd : s.tenancy.due s.params = none) : s.settle = s := by
  unfold State.settle
  cases s.tenancy.waiters.length with
  | zero => rfl
  | succ n => simp only [State.evaluate, hd]

/-- Where a condition holds the evaluation hands the view over and starts again. -/
theorem settle_of_due_some {cause : TenancyCause} (hw : s.tenancy.waiters = w :: rest) (hd : s.tenancy.due s.params = some cause) :
    s.settle = (s.grantBest cause true).settle := by
  have hleft : (s.grantBest cause true).tenancy.waiters.length = rest.length := by rw [State.grantBest_waiters, hw, List.tail_cons]
  simp only [State.settle, hleft, hw, List.length_cons, State.evaluate, hd]

theorem settle_of_no_waiter (hw : s.tenancy.waiters = []) : s.settle = s := by
  simp only [State.settle, hw, List.length_nil, State.evaluate]

theorem settle_of_no_holder (hh : s.tenancy.holder = none) : s.settle = s :=
  settle_of_due_none (by simp only [Tenancy.due, hh])

theorem outranks_iff (order : Nat) (p q : Port) :
    outranks order p q = true ↔ (rankList order).idxOf p < (rankList order).idxOf q := decide_eq_true_iff

/-- The idle condition, with the threshold in one formula (R108, R109). -/
theorem idleDue_iff (t : Tenancy) (params : Params) :
    t.idleDue params = true ↔
      (if t.holdFast then max params.yieldDelay (params.holdFastLimit * 1000) else params.yieldDelay) ≤ t.idle ∧
        ¬ (t.holdFast = true ∧ params.holdFastLimit = 0) := by
  unfold Tenancy.idleDue Tenancy.threshold
  cases t.holdFast with
  | false => simp
  | true =>
    by_cases hlimit : params.holdFastLimit = 0
    · simp [hlimit]
    · simp [hlimit, Nat.mul_comm 1000]

/-- With a holder and a waiter the conditions are preemption first and idleness next (R111). -/
theorem due_eq {t : Tenancy} (hh : t.holder = some h) (hw : t.waiters = w :: rest) (params : Params) :
    t.due params =
      if (rankList params.rankOrder).idxOf w.port < (rankList params.rankOrder).idxOf h ∧ t.holdFast = false then some .preempted
      else if t.idleDue params = true then some .idle else none := by
  simp only [Tenancy.due, hh, hw, Bool.and_eq_true, outranks_iff, Bool.not_eq_true']

end

/-- Settles O24: each turn of the evaluation is a grant to the best waiter, by the first condition that holds. -/
theorem evaluationActsUntilNoConditionHolds : Obligations.EvaluationActsUntilNoConditionHolds := by
  refine ⟨fun s => State.evaluate_ends _ s le_rfl, fun s hs => hs.elim settle_of_no_waiter settle_of_no_holder,
    fun s h w rest hh hw preempted idle threshold hpreempted hthreshold hidle => ?_⟩
  have hdue := due_eq hh hw s.params
  have hidleDue : s.tenancy.idleDue s.params = true ↔ idle := by rw [idleDue_iff, ← hthreshold, hidle]
  refine ⟨fun hp hi => settle_of_due_none (by rw [hdue, if_neg (mt hpreempted.2 hp), if_neg (mt hidleDue.1 hi)]),
    fun cause hcause => ?_⟩
  rw [← grantBest_taken hh hw cause]
  refine settle_of_due_some hw ?_
  obtain ⟨hp, rfl⟩ | ⟨hp, hi, rfl⟩ := hcause
  · rw [hdue, if_pos (hpreempted.1 hp)]
  · rw [hdue, if_neg (mt hpreempted.2 hp), if_pos (hidleDue.2 hi)]

/-! ### CLAIM_VIEW (R106, R107) -/

theorem byte_eq_one (b : Byte) : (b.toNat = 1) = (b = 1) := propext (BitVec.toNat_inj (y := 1))

section
variable {s : State} {p h : Port} {q : Request} {wait hold single : Byte} (hq : q.args = [wait, hold, single])
include hq

theorem claim_refused (h : 1 < wait ∨ 1 < hold ∨ 1 < single) : s.claim p q = .plain s .badArgument := by
  have hbad : 1 < argByte q.args 0 ∨ 1 < argByte q.args 1 ∨ 1 < argByte q.args 2 := by rw [hq]; exact h
  exact if_pos hbad

variable (hwait : wait ≤ 1) (hhold : hold ≤ 1) (hsingle : single ≤ 1)
include hwait hhold hsingle

theorem claim_good : ¬ (1 < argByte q.args 0 ∨ 1 < argByte q.args 1 ∨ 1 < argByte q.args 2) := by
  rw [hq, not_or, not_or]
  exact ⟨Nat.not_lt.2 hwait, Nat.not_lt.2 hhold, Nat.not_lt.2 hsingle⟩

/-- CLAIM_VIEW of a view nobody holds. -/
theorem claim_unheld (hh : s.tenancy.holder = none) : s.claim p q =
    State.claimAnswer (s.handover { holder := some p, holdFast := decide (hold = 1), singleUse := decide (single = 1), idle := 0
                                    waiters := [] } .claim) p .ok := by
  simp only [State.claim, if_neg (claim_good hq hwait hhold hsingle), hh]
  simp only [hq, argByte, byte_eq_one]
  rfl

/-- CLAIM_VIEW of a view that port `h` holds, its cases in order. -/
theorem claim_held (hh : s.tenancy.holder = some h) : s.claim p q =
    if h = p then
      (s.withTenancy { s.tenancy with
        holdFast := decide (hold = 1), singleUse := decide (single = 1) }).settle.claimAnswer p .ok
    else if s.preempts p h then
      ((s.handover (s.tenancy.claimed p (decide (hold = 1)) (decide (single = 1))) .preempted).post h
        (.viewLost .preempted p)).settle.claimAnswer p .ok
    else if wait = 1 then
      (s.withTenancy (s.tenancy.withEntry s.params.rankOrder
        { port := p, holdFast := decide (hold = 1), singleUse := decide (single = 1) })).settle.claimAnswer p .accepted
    else .plain s .busy := by
  simp only [State.claim, if_neg (claim_good hq hwait hhold hsingle), hh]
  simp only [hq, argByte, byte_eq_one]
  rfl

end

theorem preempts_iff (s : State) (p h : Port) :
    s.preempts p h = true ↔
      (rankList s.params.rankOrder).idxOf p < (rankList s.params.rankOrder).idxOf h ∧ s.tenancy.holdFast = false := by
  simp only [State.preempts, Bool.and_eq_true, outranks_iff, Bool.not_eq_true']

/-- The wait set with one entry created or updated is the one with these entries in rank order (R107). -/
theorem withEntry_eq {s : State} (hs : s.tenancyOk) {entry : Waiter} {ws : List Waiter}
    (hmem : ∀ w, w ∈ ws ↔ (w ∈ s.tenancy.waiters ∧ w.port ≠ entry.port) ∨ w = entry)
    (hsub : (ws.map fun w => w.port).Sublist (rankList s.params.rankOrder)) :
    s.tenancy.withEntry s.params.rankOrder entry = { s.tenancy with waiters := ws } := by
  obtain ⟨hranked, -⟩ := hs
  have hold : ((entry :: (s.tenancy.without entry.port).waiters).map fun w => w.port).Nodup := by
    refine List.nodup_cons.2 ⟨fun hin => ?_, ?_⟩
    · obtain ⟨w, hw, hport⟩ := List.mem_map.1 hin
      exact of_decide_eq_true (List.mem_filter.1 hw).2 hport
    · exact (hranked.nodup (rankList_nodup _)).sublist (List.filter_sublist.map _)
  have hsort : rankSort s.params.rankOrder (entry :: (s.tenancy.without entry.port).waiters) = ws := by
    refine rankSort_eq hold (fun w => ?_) hsub
    rw [hmem w, List.mem_cons, Tenancy.without, List.mem_filter, decide_eq_true_iff, or_comm]
  rw [Tenancy.withEntry, hsort]

/-- Settles O25, by the arguments and then by the holder: none, the claimant, one that is preempted, or one that stays. -/
theorem claimGivesPreemptsWaitsOrIsRefused : Obligations.ClaimGivesPreemptsWaitsOrIsRefused := by
  intro s p k q wait hold single hands
  have hanswer : ∀ answer : Answer, s.claim p q = answer →
      exec (.claimView p) s = .next (answer.state.reply p k q answer.status answer.results) := fun answer ha =>
    serveOpen_answer (fun q s => s.claim p q) hands rfl rfl ha
  refine ⟨fun hbad => hanswer _ (claim_refused hands.args_eq hbad), fun hwait hhold hsingle => ?_⟩
  refine ⟨fun hnone => ?_, fun h hh => ?_⟩
  · refine (hanswer _ (claim_unheld hands.args_eq hwait hhold hsingle hnone)).trans ?_
    simp [State.claimAnswer, handover_eq, afterHandover, Tenancy.claimResults, Tenancy.standing, Tenancy.position, byte1,
      TenancyCause.code]
  · have hclaim := claim_held (p := p) hands.args_eq hwait hhold hsingle hh
    refine ⟨?_, fun hp hfast hrank t ht => ?_, fun hp hstays => ?_⟩
    · rintro rfl t rfl
      exact hanswer _ (hclaim.trans (if_pos rfl))
    · subst ht
      exact hanswer _ (hclaim.trans ((if_neg hp).trans (if_pos ((preempts_iff s p h).2 ⟨hrank, hfast⟩))))
    · have hnot : ¬ s.preempts p h = true := by
        rw [preempts_iff, not_and, Bool.not_eq_false]
        exact fun hlt => hstays.resolve_right (Nat.not_le.2 hlt)
      have hplace := hclaim.trans ((if_neg hp).trans (if_neg hnot))
      refine ⟨?_, ?_⟩
      · rintro rfl
        exact hanswer _ (hplace.trans (if_neg (by decide)))
      · rintro rfl hs ws t hmem hsub rfl
        have hentry := withEntry_eq hs (entry := { port := p, holdFast := decide (hold = 1), singleUse := decide (single = 1) })
          hmem hsub
        rw [if_pos rfl, hentry] at hplace
        exact hanswer _ hplace

/-! ### RELEASE_VIEW and WITHDRAW_CLAIM (R112, R113) -/

/-- The holder lets the view go with no port waiting. -/
theorem passOn_nobody {s : State} (hw : s.tenancy.waiters = []) (cause : TenancyCause) :
    s.passOn cause = afterHandover s nobody cause.code := by
  unfold State.passOn
  rw [hw]
  rfl

/-- The holder lets the view go to the best waiter. -/
theorem passOn_best {s : State} {h : Port} {w : Waiter} {rest : List Waiter} (hh : s.tenancy.holder = some h)
    (hw : s.tenancy.waiters = w :: rest) (cause : TenancyCause) :
    s.passOn cause = ((afterHandover s { holder := some w.port, holdFast := w.holdFast, singleUse := w.singleUse, idle := 0,
                                         waiters := rest } cause.code).post w.port
      (.viewGranted (some h) w.holdFast w.singleUse cause)).settle := by
  rw [← grantBest_given hh hw]
  unfold State.passOn
  rw [hw]

/-- Settles O26: the holder's release is a pass to the best waiter or to nobody, and a withdrawal drops the wait entry. -/
theorem releaseAndWithdrawGiveUp : Obligations.ReleaseAndWithdrawGiveUp := by
  refine ⟨fun s p k q hands => ?_, fun s p k q hands => serveOpen_answer (fun _ s => s.withdraw p) hands rfl rfl rfl⟩
  have hanswer : ∀ t : State, (if s.tenancy.holder = some p then s.passOn .release else s) = t →
      exec (.releaseView p) s = .next (t.reply p k q .ok [byte1 (t.tenancy.standing p)]) := by
    rintro t rfl
    exact serveOpen_answer (fun _ s => s.release p) hands rfl rfl rfl
  refine ⟨fun hother => ?_, fun hh hw => ?_, fun w rest t hh hw ht => ?_⟩
  · rw [hanswer s (if_neg hother), byte1_standing, if_neg hother]
  · exact hanswer _ ((if_pos hh).trans (passOn_nobody hw .release))
  · exact hanswer _ ((if_pos hh).trans ((passOn_best hh hw .release).trans ht.symm))

/-! ### The millisecond tick (R108, R111) -/

/-- The record with its idle time raised, in one record update. -/
theorem older_eq (t : Tenancy) :
    t.older = { t with idle := if t.holder = none then t.idle else min 4294967295 (t.idle + 1) } := by
  obtain ⟨holder, holdFast, singleUse, idle, waiters⟩ := t
  cases holder <;> rfl

/-- The holder's tick at which it yields by idleness: what the conditions of the statement come to. -/
theorem due_older_idle {s : State} {h : Port} {w : Waiter} {rest : List Waiter} (hh : s.tenancy.holder = some h)
    (hw : s.tenancy.waiters = w :: rest)
    (hdue : (s.tenancy.holdFast = false ∧ s.params.yieldDelay ≤ min 4294967295 (s.tenancy.idle + 1) ∧
        (rankList s.params.rankOrder).idxOf h ≤ (rankList s.params.rankOrder).idxOf w.port) ∨
      (s.tenancy.holdFast = true ∧ s.params.holdFastLimit ≠ 0 ∧
        max s.params.yieldDelay (s.params.holdFastLimit * 1000) ≤ min 4294967295 (s.tenancy.idle + 1))) :
    s.tenancy.older.due s.params = some .idle := by
  have holder : s.tenancy.older.holder = some h := by rw [older_eq]; exact hh
  have hwaiters : s.tenancy.older.waiters = w :: rest := by rw [older_eq]; exact hw
  have hidle : s.tenancy.older.idleDue s.params = true := by
    rw [idleDue_iff, older_eq]
    simp only [hh, reduceCtorEq, if_false]
    obtain ⟨hfast, hle, -⟩ | ⟨hfast, hlimit, hle⟩ := hdue
    · simpa [hfast] using hle
    · simpa [hfast, hlimit] using hle
  rw [due_eq holder hwaiters, if_neg, if_pos hidle]
  rintro ⟨hlt, hfast⟩
  rw [older_eq] at hfast
  obtain ⟨-, -, hle⟩ | ⟨htrue, -⟩ := hdue
  · exact absurd hlt (Nat.not_lt.2 hle)
  · exact absurd (htrue.symm.trans hfast) (by decide)

theorem clockTick_at_rest {s : State} (pause : Option Port) (hl : s.lesson.state ≠ .running) : s.clockTick pause = s := by
  simp only [State.clockTick, Lesson.tick, Lesson.counting, hl, false_and, decide_false, Bool.false_eq_true, if_false]
  rfl

theorem linkTick_ready {s : State} (hl : s.link.state = .ready) : s.linkTick = s := by
  simp only [State.linkTick, hl]

/-- Settles O27: the tick is its four shares by definition; with nothing to do at the others it is the idle time and the count. -/
theorem millisecondTickRaisesTheCounts : Obligations.MillisecondTickRaisesTheCounts := by
  refine ⟨fun s pause => ⟨s.tenancyTick, ?_, rfl, fun hw hlesson hlink => ?_⟩, fun s h w rest hh hw hdue => ?_⟩
  · rw [State.tenancyTick, older_eq]
    rfl
  · have htick : s.tenancyTick = s.withTenancy s.tenancy.older :=
      settle_of_no_waiter (by rw [State.tenancy_withTenancy, older_eq]; exact hw)
    have hclock := clockTick_at_rest (s := s.withTenancy s.tenancy.older) pause hlesson
    have hready := linkTick_ready (s := (s.withTenancy s.tenancy.older).timelineTick) hlink
    show Host.Outcome.next (((s.tenancyTick.clockTick pause).timelineTick).linkTick) = _
    rw [htick, hclock, hready, older_eq]
    rfl
  · have hidle := due_older_idle hh hw hdue
    have holder : (s.withTenancy s.tenancy.older).tenancy.holder = some h := by simp [older_eq, hh]
    have hwaiters : (s.withTenancy s.tenancy.older).tenancy.waiters = w :: rest := by simpa [older_eq] using hw
    show Host.Outcome.next (if s.tenancy.older.due s.params = some .idle then s.tenancyTick else s) = _
    rw [if_pos hidle, State.tenancyTick, settle_of_due_some hwaiters hidle, grantBest_taken holder hwaiters]
    refine congrArg (fun t : State => Host.Outcome.next (((t.post h _).post w.port _).settle)) ?_
    simp only [afterHandover, holder, hh]
    rfl

end Sys2Proof.Statements

/-! SUPPORT. Gated requests: the thirteen requests carried out without a look at the tenancy record, and a reply that stands beside
the notices of a handover. -/
namespace Sys2Proof.Machine

/-! ### Replies and notices at one port (R181, R183) -/

theorem PortRec.handOn_notices (r : PortRec) (notices : List Notice) (lost : Bool) (fetch : Option Fetch) :
    PortRec.handOn { r with notices := notices, lost := lost, fetch := fetch } =
      { r.handOn with notices := notices, lost := lost, fetch := fetch } := by
  unfold PortRec.handOn
  dsimp only
  split
  · rfl
  · split <;> rfl

/-- A notice and a reply do not meet: it does not matter which a port takes first. -/
theorem PortRec.take_placeReply (r : PortRec) (k : Fin 4) (reply : Reply) (n : Notice) :
    (r.placeReply k reply).take n = (r.take n).placeReply k reply := by
  have hplace : ∀ notices lost fetch, PortRec.placeReply { r with notices := notices, lost := lost, fetch := fetch } k reply =
      { r.placeReply k reply with notices := notices, lost := lost, fetch := fetch } :=
    fun notices lost fetch => PortRec.handOn_notices { r with slots := r.slots.set k (.replied reply) } notices lost fetch
  obtain ⟨hpresent, -, hnotices, hlost, hmask, hfetch, -⟩ := r.placeReply_keeps k reply
  unfold PortRec.take
  rw [hpresent, hnotices, hmask, hfetch]
  split
  · rfl
  · split
    · rfl
    · split
      · refine ((hplace _ _ _).trans ?_).symm
        simp only [hpresent, hmask]
      · refine ((hplace _ _ _).trans ?_).symm
        simp only [hpresent, hmask, hlost]

theorem State.setPort_setPort_same (s : State) (p : Port) (r r' : PortRec) : (s.setPort p r).setPort p r' = s.setPort p r' := by
  cases p <;> rfl

theorem State.setPort_comm (s : State) {p j : Port} (h : j ≠ p) (r r' : PortRec) :
    (s.setPort p r).setPort j r' = (s.setPort j r').setPort p r := by
  cases p <;> cases j <;> trivial

section
variable (s : State) (p : Port) (k : Fin 4) (q : Request) (status : Status) (results : List Byte)

theorem State.post_reply (j : Port) (n : Notice) :
    (s.reply p k q status results).post j n = (s.post j n).reply p k q status results := by
  by_cases h : j = p
  · subst h
    simp only [State.reply, State.post, State.port_setPort_same, State.setPort_setPort_same, PortRec.take_placeReply]
  · simp only [State.reply, State.post, State.port_setPort_other _ _ _ _ h, State.port_setPort_other _ _ _ _ (Ne.symm h)]
    exact s.setPort_comm h _ _

theorem State.grantBest_reply (cause : TenancyCause) (tell : Bool) :
    (s.reply p k q status results).grantBest cause tell = (s.grantBest cause tell).reply p k q status results := by
  have hover : ∀ t, (s.reply p k q status results).handover t cause = (s.handover t cause).reply p k q status results := fun _ => rfl
  obtain ⟨-, -, -, -, -, -, -, -, htenancy, -⟩ := s.reply_frame p k q status results
  unfold State.grantBest
  rw [htenancy]
  cases s.tenancy.waiters with
  | nil => rfl
  | cons w rest =>
    cases s.tenancy.holder with
    | none => simp only [hover, State.post_reply]
    | some h => cases tell <;> simp only [hover, State.post_reply, if_true, Bool.false_eq_true, if_false]

theorem State.evaluate_reply (fuel : Nat) :
    State.evaluate fuel (s.reply p k q status results) = (State.evaluate fuel s).reply p k q status results := by
  induction fuel generalizing s with
  | zero => rfl
  | succ fuel ih =>
    have hdue : (s.reply p k q status results).tenancy.due (s.reply p k q status results).params = s.tenancy.due s.params := rfl
    unfold State.evaluate
    rw [hdue]
    cases s.tenancy.due s.params with
    | none => rfl
    | some cause => simp only [State.grantBest_reply, ih]

/-- The evaluation and a reply do not meet. -/
theorem State.settle_reply : (s.reply p k q status results).settle = s.settle.reply p k q status results :=
  s.evaluate_reply p k q status results _

end

/-! ### Requests that do not look at the tenancy record (R104) -/

/-- The answer with another tenancy record in its state. -/
def Answer.withTenancy (a : Answer) (x : Tenancy) : Answer := { a with state := a.state.withTenancy x }

/-- What a request comes to does not depend on the tenancy record, which it leaves as it is. -/
def TenancyBlind (body : Request → State → Answer) : Prop :=
  ∀ (q : Request) (s : State) (x : Tenancy), body q (s.withTenancy x) = (body q s).withTenancy x

theorem TenancyBlind.tenancy {body : Request → State → Answer} (h : TenancyBlind body) (q : Request) (s : State) :
    (body q s).state.tenancy = s.tenancy := by
  have hsame : (body q s).state = (body q s).state.withTenancy s.tenancy := congrArg Answer.state (h q s s.tenancy)
  rw [hsame]
  rfl

theorem tenancyBlind_sourcePage (s : State) (x : Tenancy) (p : Port) (source : Source) (slot serial : Nat) :
    (s.withTenancy x).sourcePage p source slot serial = (s.sourcePage p source slot serial).withTenancy x := by
  unfold State.sourcePage
  cases slotOf slot with
  | none => rfl
  | some j =>
    dsimp only [State.store_withTenancy]
    cases s.store.storedWith j serial <;> rfl

theorem tenancyBlind_setSource (p : Port) : TenancyBlind fun q s => s.setSource p q := by
  intro q s x
  dsimp only [State.setSource]
  split
  · rfl
  · rfl
  · exact tenancyBlind_sourcePage ..
  · exact tenancyBlind_sourcePage ..

theorem tenancyBlind_freeze (p : Port) : TenancyBlind fun _ s => s.freeze p := by
  intro q s x
  dsimp only [State.freeze, State.view_withTenancy, State.pool_withTenancy]
  by_cases hfrozen : s.view.staged.frozen = true
  case pos =>
    simp only [hfrozen, if_true]
    rfl
  case neg =>
    simp only [hfrozen, Bool.false_eq_true, if_false]
    obtain ⟨answer, pool⟩ := s.pool.takeNewest .held
    cases answer <;> rfl

theorem tenancyBlind_unfreeze (p : Port) : TenancyBlind fun _ s => s.unfreeze p := by
  intro q s x
  dsimp only [State.unfreeze, State.releaseHeld, State.view_withTenancy, State.pool_withTenancy]
  by_cases hfrozen : s.view.staged.frozen = true
  case pos =>
    simp only [hfrozen, if_true]
    cases s.view.held <;> rfl
  case neg =>
    simp only [hfrozen, Bool.false_eq_true, if_false]
    rfl

theorem tenancyBlind_setClarity : TenancyBlind fun q s => s.setClarity q := by
  intro q s x
  dsimp only [State.setClarity]
  split <;> rfl

theorem tenancyBlind_setExposure : TenancyBlind fun q s => s.setExposure q := by
  intro q s x
  dsimp only [State.setExposure]
  split <;> rfl

theorem tenancyBlind_setLamp : TenancyBlind fun q s => s.setLamp q := by
  intro q s x
  dsimp only [State.setLamp, State.light_withTenancy]
  split
  · rfl
  · by_cases hsame : clampNat 0 10 (argByte q.args 0) = s.light.setLevel ∧ decide (argByte q.args 1 = 1) = s.light.auto
    · simp only [hsame, and_self, if_true]
      rfl
    · simp only [hsame, if_false]
      rfl

theorem tenancyBlind_setOutputMode : TenancyBlind fun q s => s.setOutputMode q := by
  intro q s x
  dsimp only [State.setOutputMode, State.feed_withTenancy]
  split
  · rfl
  · next mode _ =>
    by_cases hsame : mode = s.feed.mode
    · simp only [hsame, if_true]
      rfl
    · simp only [hsame, if_false]
      cases s.feed.state <;> rfl

end Sys2Proof.Machine

namespace Sys2Proof.Statements

open Sys2Proof.Machine

/-! ### The thirteen gated requests (R104, R105, R110) -/

/-- Each gated request serves its code behind the gate, and its unit does not look at the tenancy record. -/
theorem gatedCommands_serve {p : Port} {row : Instr × Nat} (h : row ∈ gatedCommands p) :
    ∃ body, TenancyBlind body ∧ ∀ s, exec row.1 s = serveGated row.2 p body s := by
  simp only [gatedCommands, List.mem_cons, List.not_mem_nil, or_false] at h
  obtain rfl | rfl | rfl | rfl | rfl | rfl | rfl | rfl | rfl | rfl | rfl | rfl | rfl := h
  · exact ⟨fun q s => s.zoomTo p q, fun _ _ _ => rfl, fun _ => rfl⟩
  · exact ⟨fun q s => s.zoomBy p q, fun _ _ _ => rfl, fun _ => rfl⟩
  · exact ⟨fun q s => s.panTo p q, fun _ _ _ => rfl, fun _ => rfl⟩
  · exact ⟨fun q s => s.panBy p q, fun _ _ _ => rfl, fun _ => rfl⟩
  · exact ⟨_, tenancyBlind_setSource p, fun _ => rfl⟩
  · exact ⟨_, tenancyBlind_freeze p, fun _ => rfl⟩
  · exact ⟨_, tenancyBlind_unfreeze p, fun _ => rfl⟩
  · exact ⟨fun _ s => s.setBlank p true, fun _ _ _ => rfl, fun _ => rfl⟩
  · exact ⟨fun _ s => s.setBlank p false, fun _ _ _ => rfl, fun _ => rfl⟩
  · exact ⟨_, tenancyBlind_setClarity, fun _ => rfl⟩
  · exact ⟨_, tenancyBlind_setExposure, fun _ => rfl⟩
  · exact ⟨_, tenancyBlind_setLamp, fun _ => rfl⟩
  · exact ⟨_, tenancyBlind_setOutputMode, fun _ => rfl⟩

/-- A gated request of an allowed length that the port hands on goes through the gate and is answered. -/
theorem exec_gated {p : Port} {row : Instr × Nat} {q : Request} (hrow : row ∈ gatedCommands p) (hcode : q.code.toNat = row.2)
    (hl : lengthAllowed q = true) :
    ∃ body, TenancyBlind body ∧ ∀ (s : State) (k : Fin 4) (a : Answer), (s.port p).current = some (k, q) →
      State.gated p body q s = a → exec row.1 s = .next (a.state.reply p k q a.status a.results) := by
  obtain ⟨body, hblind, hexec⟩ := gatedCommands_serve hrow
  refine ⟨body, hblind, ?_⟩
  rintro s k a hc rfl
  rw [hexec, serveGated, State.serve_eq s p _ _ k q hc (by simp [Request.hasCode, hcode]) hl]

/-- Settles O22: with another holder the gate refuses, and with none it hands the view to the port and goes on as for a holder. -/
theorem gatedRequestsAskForTheHolder : Obligations.GatedRequestsAskForTheHolder := by
  refine ⟨fun s p h k q hc hl hh hp row hrow hcode => ?_, fun s p k q hc hl hh row hrow hcode => ?_⟩
  · obtain ⟨body, -, hexec⟩ := exec_gated hrow hcode hl
    exact hexec s k (Answer.plain s .notHolder) hc (by simp only [State.gated, s.passTenancy_other p h hh hp])
  · obtain ⟨body, -, hexec⟩ := exec_gated hrow hcode hl
    let claimed := afterHandover s { holder := some p, holdFast := false, singleUse := false, idle := 0, waiters := [] } 2
    have hclaim : s.passTenancy p = some claimed := by simp only [State.passTenancy, hh]; rfl
    have hholder : claimed.passTenancy p = some claimed := claimed.passTenancy_holder p rfl
    have hsame : State.gated p body q s = State.gated p body q claimed := by simp only [State.gated, hclaim, hholder]
    rw [hexec s k _ hc hsame, hexec claimed k _ hc rfl]

/-- Who holds the view and who waits is all of the record that a grant to the best waiter looks at. -/
theorem grantBest_withTenancy (s : State) {x : Tenancy} (hh : x.holder = s.tenancy.holder) (hw : x.waiters = s.tenancy.waiters)
    (cause : TenancyCause) (tell : Bool) (h : s.tenancy.waiters ≠ []) :
    (s.withTenancy x).grantBest cause tell = s.grantBest cause tell := by
  have hover : ∀ r, (s.withTenancy x).handover r cause = s.handover r cause := fun r => by
    simp only [State.handover, State.tenancy_withTenancy, hh]
    rfl
  unfold State.grantBest
  simp only [State.tenancy_withTenancy, hh, hw, hover]
  split
  · next hnil => exact absurd hnil h
  · rfl

/-- Settles O23: the request leaves the tenancy record, the step after it grants the view to the best waiter, and the reply does
not meet the notices of the handover. -/
theorem singleUseHolderYieldsAfterARequest : Obligations.SingleUseHolderYieldsAfterARequest := by
  intro s t p k q w rest hc hl hh hsingle hw row hrow hcode ht
  obtain ⟨body, hblind, hexec⟩ := exec_gated hrow hcode hl
  let once : Tenancy := { s.tenancy with idle := 0 }
  let plain : Tenancy := { s.tenancy with singleUse := false, idle := 0 }
  let a := body q (s.withTenancy once)
  have htenancy : a.state.tenancy = once := hblind.tenancy q _
  have hwaiters : a.state.tenancy.waiters = w :: rest := by rw [htenancy]; exact hw
  have hplain : State.gated p body q { s with tenancy := { s.tenancy with singleUse := false } } = a.withTenancy plain := by
    have hpass := State.passTenancy_holder { s with tenancy := { s.tenancy with singleUse := false } } p hh
    have hbody : body q (s.withTenancy plain) = a.withTenancy plain := hblind q (s.withTenancy once) plain
    have hstep := (a.withTenancy plain).state.singleUseStep_eq (.inl rfl)
    simp only [State.gated, hpass]
    exact (congrArg (fun b : Answer => { b with state := b.state.singleUseStep }) hbody).trans
      (congrArg (fun u => { a.withTenancy plain with state := u }) hstep)
  have hgated : State.gated p body q s = { a with state := (a.state.grantBest .singleUse true).settle } := by
    have hstep : a.state.singleUseStep = (a.state.grantBest .singleUse true).settle :=
      if_pos ⟨by rw [htenancy]; exact hsingle, by rw [hwaiters]; exact List.cons_ne_nil _ _⟩
    simp only [State.gated, s.passTenancy_holder p hh]
    exact congrArg (fun u => { a with state := u }) hstep
  have hreply : t = (a.state.withTenancy plain).reply p k q a.status a.results := by
    have hnext := hexec { s with tenancy := { s.tenancy with singleUse := false } } k _ hc hplain
    rw [ht] at hnext
    exact Host.Outcome.next.inj hnext
  have hgrant : t.grantBest .singleUse true = (a.state.grantBest .singleUse true).reply p k q a.status a.results := by
    rw [hreply, State.grantBest_reply, grantBest_withTenancy a.state (by rw [htenancy]) (by rw [htenancy]) _ _
      (by rw [hwaiters]; exact List.cons_ne_nil _ _)]
  have htaken := grantBest_taken (s := t) (h := p) (w := w) (rest := rest) (by rw [hreply]; exact hh) (by rw [hreply]; exact hw)
    .singleUse
  rw [hexec s k _ hc hgated, ← State.settle_reply, ← hgrant, htaken]
  rfl

end Sys2Proof.Statements

/-! SUPPORT. Tenancy kept: the invariant of the tenancy record, the operations that change the record, and those that leave it. -/
namespace Sys2Proof.Machine

open Sys2Proof.Statements

/-! ### The record (R102, R107) -/

/-- The tenancy record is consistent under a rank order (R102, R107). -/
structure Tenancy.Consistent (t : Tenancy) (order : Nat) : Prop where
  ranked : (t.waiters.map fun w => w.port).Sublist (rankList order)
  apart : ∀ w ∈ t.waiters, t.holder ≠ some w.port
  clear : t.holder = none → t.waiters = [] ∧ t.holdFast = false ∧ t.singleUse = false ∧ t.idle = 0
  idle : t.idle ≤ 4294967295

theorem State.tenancyOk_iff (s : State) : s.tenancyOk ↔ s.tenancy.Consistent s.params.rankOrder :=
  ⟨fun ⟨hranked, hapart, hclear, hidle⟩ => ⟨hranked, hapart, hclear, hidle⟩,
    fun h => ⟨h.ranked, h.apart, h.clear, h.idle⟩⟩

/-- Ports looked up in an order stand in that order. -/
theorem rankSort_sublist (order : Nat) (ws : List Waiter) : ((rankSort order ws).map fun w => w.port).Sublist (rankList order) := by
  unfold rankSort
  induction rankList order with
  | nil => exact List.Sublist.slnil
  | cons p rest ih =>
    rw [List.filterMap_cons]
    split
    · exact ih.cons p
    · next w hw =>
      have hport : w.port = p := of_decide_eq_true (List.find?_some (p := fun w : Waiter => decide (w.port = p)) hw)
      rw [List.map_cons, hport]
      exact ih.cons_cons p

theorem mem_of_mem_rankSort {order : Nat} {ws : List Waiter} {w : Waiter} (h : w ∈ rankSort order ws) : w ∈ ws := by
  obtain ⟨p, -, hw⟩ := List.mem_filterMap.1 h
  exact List.mem_of_find?_eq_some hw

theorem Tenancy.consistent_nobody (order : Nat) : Tenancy.Consistent nobody order :=
  ⟨List.nil_sublist _, fun _ hw => absurd hw (List.not_mem_nil), fun _ => ⟨rfl, rfl, rfl, rfl⟩, Nat.zero_le _⟩

section
variable {t : Tenancy} {order : Nat}

/-- A holder with a wait set in rank order that it is not in. -/
theorem Tenancy.consistent_held {p : Port} (hh : t.holder = some p)
    (hranked : (t.waiters.map fun w => w.port).Sublist (rankList order)) (hapart : ∀ w ∈ t.waiters, w.port ≠ p)
    (hidle : t.idle ≤ 4294967295) : t.Consistent order where
  ranked := hranked
  apart w hw := by
    rw [hh]
    exact fun he => hapart w hw (Option.some.inj he).symm
  clear hnone := by simp [hh] at hnone
  idle := hidle

/-- A view just handed over with no port waiting. -/
theorem Tenancy.consistent_alone (p : Port) (holdFast singleUse : Bool) :
    Tenancy.Consistent { holder := some p, holdFast := holdFast, singleUse := singleUse, idle := 0, waiters := [] } order :=
  Tenancy.consistent_held rfl (List.nil_sublist _) (fun _ hw => absurd hw List.not_mem_nil) (Nat.zero_le _)

theorem Tenancy.Consistent.apart_of (h : t.Consistent order) {p : Port} (hh : t.holder = some p) {w : Waiter} (hw : w ∈ t.waiters) :
    w.port ≠ p := fun he => h.apart w hw (by rw [hh, he])

/-- The best waiter becomes the holder and leaves the wait set, in which it stood once. -/
theorem Tenancy.Consistent.granted (h : t.Consistent order) {w : Waiter} {rest : List Waiter} (hw : t.waiters = w :: rest) :
    Tenancy.Consistent
      { holder := some w.port, holdFast := w.holdFast, singleUse := w.singleUse, idle := 0, waiters := rest } order := by
  have hranked := h.ranked
  rw [hw, List.map_cons] at hranked
  obtain ⟨hfirst, -⟩ := List.nodup_cons.1 (hranked.nodup (rankList_nodup order))
  refine Tenancy.consistent_held rfl ((List.sublist_cons_self _ _).trans hranked) (fun x hx he => hfirst ?_) (Nat.zero_le _)
  exact List.mem_map.2 ⟨x, hx, he⟩

theorem Tenancy.without_sublist (t : Tenancy) (p : Port) : (t.without p).waiters.Sublist t.waiters := List.filter_sublist

theorem Tenancy.Consistent.without (h : t.Consistent order) (p : Port) : (t.without p).Consistent order where
  ranked := ((t.without_sublist p).map _).trans h.ranked
  apart w hw := h.apart w ((t.without_sublist p).subset hw)
  clear hnone := by
    obtain ⟨hwaiters, hflags⟩ := h.clear hnone
    exact ⟨by rw [Tenancy.without, hwaiters]; rfl, hflags⟩
  idle := h.idle

theorem Tenancy.Consistent.claimed (h : t.Consistent order) (p : Port) (holdFast singleUse : Bool) :
    (t.claimed p holdFast singleUse).Consistent order :=
  Tenancy.consistent_held rfl (h.without p).ranked (fun _ hw => of_decide_eq_true (List.mem_filter.1 hw).2) (Nat.zero_le _)

/-- The holder's flags and idle time changed. -/
theorem Tenancy.Consistent.changed (h : t.Consistent order) {p : Port} (hh : t.holder = some p) (holdFast singleUse : Bool)
    {idle : Nat} (hidle : idle ≤ 4294967295) :
    Tenancy.Consistent { t with holdFast := holdFast, singleUse := singleUse, idle := idle } order :=
  Tenancy.consistent_held hh h.ranked (fun _ hw => h.apart_of hh hw) hidle

theorem Tenancy.Consistent.withEntry (h : t.Consistent order) {p : Port} (hh : t.holder = some p) {entry : Waiter}
    (hp : p ≠ entry.port) : (t.withEntry order entry).Consistent order := by
  refine Tenancy.consistent_held hh (rankSort_sublist _ _) (fun w hw => ?_) h.idle
  rcases List.mem_cons.1 (mem_of_mem_rankSort hw) with rfl | hold
  · exact hp.symm
  · exact h.apart_of hh ((t.without_sublist _).subset hold)

/-- The wait set re-sorted in a new rank order. -/
theorem Tenancy.Consistent.resorted (h : t.Consistent order) (new : Nat) :
    Tenancy.Consistent { t with waiters := rankSort new t.waiters } new where
  ranked := rankSort_sublist _ _
  apart w hw := h.apart w (mem_of_mem_rankSort hw)
  clear hnone := by
    obtain ⟨hwaiters, hflags⟩ := h.clear hnone
    refine ⟨List.eq_nil_iff_forall_not_mem.2 fun w hw => ?_, hflags⟩
    have hold := mem_of_mem_rankSort hw
    rw [hwaiters] at hold
    exact List.not_mem_nil hold
  idle := h.idle

theorem Tenancy.Consistent.older (h : t.Consistent order) : t.older.Consistent order := by
  unfold Tenancy.older
  split
  · next p hh => exact h.changed hh t.holdFast t.singleUse (Nat.min_le_left _ _)
  · exact h

end

/-! ### Operations that change the record -/

/-- What holds of the tenancy record of `s` under its rank order holds of that of `t`. -/
def State.KeepsTenancy (s t : State) : Prop :=
  s.tenancy.Consistent s.params.rankOrder → t.tenancy.Consistent t.params.rankOrder

/-- The tenancy record and the parameters, which hold the rank order. -/
def State.seat (s : State) : Tenancy × Params := (s.tenancy, s.params)

theorem State.KeepsTenancy.refl (s : State) : s.KeepsTenancy s := id

theorem State.KeepsTenancy.trans {s t u : State} (h : s.KeepsTenancy t) (k : t.KeepsTenancy u) : s.KeepsTenancy u := k ∘ h

theorem State.KeepsTenancy.of_same {s t : State} (h : t.seat = s.seat) : s.KeepsTenancy t := by
  obtain ⟨ht, hp⟩ := Prod.mk.inj h
  intro hs
  rw [ht, hp]
  exact hs

theorem State.KeepsTenancy.before {s t u : State} (h : s.KeepsTenancy t) (hu : u.seat = t.seat) : s.KeepsTenancy u :=
  h.trans (.of_same hu)

theorem State.KeepsTenancy.after {s t u : State} (h : t.KeepsTenancy u) (ht : t.seat = s.seat) : s.KeepsTenancy u :=
  (State.KeepsTenancy.of_same ht).trans h

/-- One record replaced by a consistent one. -/
theorem State.keepsTenancy_withTenancy (s : State) {x : Tenancy}
    (h : s.tenancy.Consistent s.params.rankOrder → x.Consistent s.params.rankOrder) : s.KeepsTenancy (s.withTenancy x) := h

/-- A handover installs its record with idle time 0. -/
theorem State.keepsTenancy_handover (s : State) {x : Tenancy} (cause : TenancyCause) (hx : x.idle = 0)
    (h : s.tenancy.Consistent s.params.rankOrder → x.Consistent s.params.rankOrder) : s.KeepsTenancy (s.handover x cause) := by
  have hsame : { x with idle := 0 } = x := by rw [← hx]
  have hrecord : s.KeepsTenancy (s.withTenancy { x with idle := 0 }) := by rw [hsame]; exact s.keepsTenancy_withTenancy h
  exact hrecord.before rfl

theorem State.keepsTenancy_grantBest (s : State) (cause : TenancyCause) (tell : Bool) : s.KeepsTenancy (s.grantBest cause tell) := by
  unfold State.grantBest
  split
  · exact .refl s
  · next w rest hw =>
    refine (s.keepsTenancy_handover (x := { holder := some w.port, holdFast := w.holdFast, singleUse := w.singleUse, idle := 0,
                                            waiters := rest }) cause rfl fun h => h.granted hw).before ?_
    dsimp only
    cases s.tenancy.holder with
    | none => rfl
    | some old => cases tell <;> rfl

theorem State.keepsTenancy_evaluate (fuel : Nat) (s : State) : s.KeepsTenancy (State.evaluate fuel s) := by
  induction fuel generalizing s with
  | zero => exact .refl s
  | succ fuel ih =>
    unfold State.evaluate
    split
    · exact (s.keepsTenancy_grantBest _ _).trans (ih _)
    · exact .refl s

theorem State.keepsTenancy_settle (s : State) : s.KeepsTenancy s.settle := State.keepsTenancy_evaluate _ s

theorem State.keepsTenancy_passOn (s : State) (cause : TenancyCause) : s.KeepsTenancy (s.passOn cause) := by
  unfold State.passOn
  split
  · exact s.keepsTenancy_handover (x := nobody) cause rfl fun _ => Tenancy.consistent_nobody _
  · exact (s.keepsTenancy_grantBest _ _).trans (State.keepsTenancy_settle _)

theorem State.keepsTenancy_portReset (s : State) (p : Port) (keep : Option (Fin 4)) : s.KeepsTenancy (s.portReset p keep) := by
  unfold State.portReset State.tenancyReset
  split
  · exact .after (State.keepsTenancy_passOn _ _) rfl
  · exact .after (State.keepsTenancy_withTenancy _ fun h => h.without p) rfl

theorem State.keepsTenancy_singleUseStep (s : State) : s.KeepsTenancy s.singleUseStep := by
  unfold State.singleUseStep
  split
  · exact (s.keepsTenancy_grantBest _ _).trans (State.keepsTenancy_settle _)
  · exact .refl s

/-- The gate: a view nobody holds is claimed, and the holder's idle time is 0 (R104, R105). -/
theorem State.keepsTenancy_passTenancy {s t : State} {p : Port} (h : s.passTenancy p = some t) : s.KeepsTenancy t := by
  unfold State.passTenancy at h
  split at h
  · cases h
    exact s.keepsTenancy_handover _ rfl fun _ => Tenancy.consistent_alone p _ _
  · next holder hh =>
    split at h <;> cases h
    exact s.keepsTenancy_withTenancy fun hc => hc.changed hh _ _ (Nat.zero_le _)

theorem State.keepsTenancy_tenancyTick (s : State) : s.KeepsTenancy s.tenancyTick :=
  (s.keepsTenancy_withTenancy fun h => h.older).trans (State.keepsTenancy_settle _)

theorem State.keepsTenancy_claim (s : State) (p : Port) (q : Request) : s.KeepsTenancy (s.claim p q).state := by
  unfold State.claim
  split
  · exact .refl s
  · dsimp only
    split
    · exact s.keepsTenancy_handover _ rfl fun _ => Tenancy.consistent_alone p _ _
    · next h hh =>
      split
      · exact (s.keepsTenancy_withTenancy fun hc => hc.changed hh _ _ hc.idle).trans (State.keepsTenancy_settle _)
      · next hp =>
        split
        · exact (s.keepsTenancy_handover (x := s.tenancy.claimed p (decide (argByte q.args 1 = 1)) (decide (argByte q.args 2 = 1)))
            .preempted rfl fun hc => hc.claimed p _ _).trans (.after (State.keepsTenancy_settle _) rfl)
        · split
          · exact (s.keepsTenancy_withTenancy fun hc => hc.withEntry hh hp).trans (State.keepsTenancy_settle _)
          · exact .refl s

theorem State.keepsTenancy_release (s : State) (p : Port) : s.KeepsTenancy (s.release p).state := by
  simp only [State.release, Answer.ok]
  split
  · exact s.keepsTenancy_passOn _
  · exact .refl s

/-! ### The parameters (R103, R109, R111) -/

theorem Params.rankOrder_write {ps after : Params} {id value kept : Nat} (h : ps.write id value = some (after, kept)) (hid : id ≠ 9) :
    after.rankOrder = ps.rankOrder := by
  unfold Params.write at h
  split at h
  case h_9 => exact absurd rfl hid
  case h_12 =>
    obtain ⟨v, -, hv⟩ := Option.map_eq_some_iff.1 h
    cases hv
    rfl
  case h_18 => cases h
  all_goals
    cases h
    rfl

/-- Only RANK_ORDER and the two thresholds have the tenancy unit act, and RANK_ORDER has the wait set re-sorted first. -/
theorem State.keepsTenancy_setParam (s : State) (p : Port) (q : Request) : s.KeepsTenancy (s.setParam p q).state := by
  unfold State.setParam
  dsimp only
  split
  · split <;> exact .of_same rfl
  · split
    · next params kept hw =>
      by_cases hid : argByte q.args 0 = 9
      · rw [hid]
        refine State.KeepsTenancy.trans (fun h => ?_) (State.keepsTenancy_settle _)
        exact h.resorted params.rankOrder
      · have hparams : s.KeepsTenancy (s.withParams params) := fun h => by
          rw [State.tenancy_withParams, State.params_withParams, Params.rankOrder_write hw hid]
          exact h
        refine hparams.trans ?_
        unfold State.ownerActs
        split
        · exact absurd ‹_› hid
        · exact State.keepsTenancy_settle _
        · exact State.keepsTenancy_settle _
        · split
          · exact .of_same rfl
          · exact .refl _
        · exact .refl _
    · exact .refl s

/-! ### Carrying out a request -/

theorem State.keepsTenancy_serve (s : State) (p : Port) (meant : Request → Bool) (body : Request → State → Answer)
    (h : ∀ q, s.KeepsTenancy (body q s).state) : s.KeepsTenancy (s.serve p meant body) := by
  unfold State.serve
  split
  · exact .refl s
  · split
    · split
      · exact (h _).before rfl
      · exact .of_same rfl
    · exact .refl s

theorem keepsTenancy_serveOpen {code : Nat} {p : Port} {body : Request → State → Answer} {s t : State}
    (ht : serveOpen code p body s = .next t) (h : ∀ q, s.KeepsTenancy (body q s).state) : s.KeepsTenancy t := by
  cases ht
  exact s.keepsTenancy_serve p _ body h

/-- A request that leaves the record, behind the gate. -/
theorem keepsTenancy_serveGated {code : Nat} {p : Port} {body : Request → State → Answer} {s t : State}
    (ht : serveGated code p body s = .next t) (h : ∀ q (u : State), (body q u).state.seat = u.seat) : s.KeepsTenancy t := by
  cases ht
  refine s.keepsTenancy_serve p _ _ fun q => ?_
  unfold State.gated
  split
  · exact .refl s
  · next u hu => exact ((State.keepsTenancy_passTenancy hu).before (h q u)).trans (State.keepsTenancy_singleUseStep _)

/-- A command that does something on an occasion only. -/
theorem State.keepsTenancy_ite {s t u : State} {c : Prop} [Decidable c]
    (h : (.next (if c then t else s) : Host.Outcome State Fault Refusal) = .next u) (ht : s.KeepsTenancy t) : s.KeepsTenancy u := by
  cases h
  split
  · exact ht
  · exact .refl s

/-! ### Requests that leave the record and the parameters -/

theorem State.seat_sourcePage (s : State) (p : Port) (source : Source) (slot serial : Nat) :
    (s.sourcePage p source slot serial).state.seat = s.seat := by
  unfold State.sourcePage
  split
  · rfl
  · split <;> rfl

theorem State.seat_setSource (s : State) (p : Port) (q : Request) : (s.setSource p q).state.seat = s.seat := by
  unfold State.setSource
  split
  · rfl
  · rfl
  · exact s.seat_sourcePage ..
  · exact s.seat_sourcePage ..

theorem State.seat_freeze (s : State) (p : Port) : (s.freeze p).state.seat = s.seat := by
  unfold State.freeze
  split
  · rfl
  · split <;> rfl

theorem State.seat_unfreeze (s : State) (p : Port) : (s.unfreeze p).state.seat = s.seat := by
  unfold State.unfreeze
  split
  · simp [State.seat, Answer.ok]
  · rfl

theorem State.seat_setClarity (s : State) (q : Request) : (s.setClarity q).state.seat = s.seat := by
  unfold State.setClarity
  split <;> rfl

theorem State.seat_setExposure (s : State) (q : Request) : (s.setExposure q).state.seat = s.seat := by
  unfold State.setExposure
  split <;> rfl

theorem State.seat_setLamp (s : State) (q : Request) : (s.setLamp q).state.seat = s.seat := by
  unfold State.setLamp
  split
  · rfl
  · dsimp only
    split <;> rfl

theorem State.seat_setOutputMode (s : State) (q : Request) : (s.setOutputMode q).state.seat = s.seat := by
  unfold State.setOutputMode
  split
  · rfl
  · split
    · rfl
    · split <;> rfl

theorem State.seat_capture (s : State) (p : Port) (q : Request) : (s.capture p q).state.seat = s.seat := by
  unfold State.capture
  dsimp only
  split
  · rfl
  · split
    · rfl
    · split
      · rfl
      · split
        · unfold State.captureNow
          split <;> rfl
        · rfl

theorem State.seat_discard (s : State) (p : Port) (q : Request) : (s.discard p q).state.seat = s.seat := by
  unfold State.discard
  split
  · rfl
  · split
    · split <;> rfl
    · split
      · unfold State.discardStored
        split
        · rfl
        · split <;> rfl
      · rfl
    · rfl

theorem State.seat_setLabel (s : State) (q : Request) : (s.setLabel q).state.seat = s.seat := by
  unfold State.setLabel
  dsimp only
  split
  · rfl
  · split
    · rfl
    · split
      · split <;> rfl
      · split <;> rfl
      · rfl

theorem State.seat_lessonStart (s : State) (p : Port) : (s.lessonStart p).state.seat = s.seat := by
  unfold State.lessonStart
  split <;> rfl

theorem State.seat_lessonResume (s : State) (p : Port) : (s.lessonResume p).state.seat = s.seat := by
  unfold State.lessonResume
  split <;> rfl

theorem State.seat_lessonEnd (s : State) (p : Port) : (s.lessonEnd p).state.seat = s.seat := by
  unfold State.lessonEnd
  split <;> rfl

theorem State.seat_lessonClear (s : State) : s.lessonClear.state.seat = s.seat := by
  unfold State.lessonClear
  split <;> rfl

theorem State.seat_exportPage (s : State) (p : Port) (q : Request) : (s.exportPage p q).state.seat = s.seat := by
  unfold State.exportPage
  split
  · split
    · rfl
    · unfold State.startExport
      split
      · rfl
      · split <;> rfl
  · rfl

theorem State.seat_setChan_unpin (s : State) (c : Channel) (x : Chan) (b : BufId) : ((s.setChan c x).unpin b).seat = s.seat := by
  simp [State.seat]

theorem State.seat_exportStop (s : State) (q : Request) : (s.exportStop q).state.seat = s.seat := by
  unfold State.exportStop
  split
  · rfl
  · unfold State.stopChannel
    split
    · split
      · rfl
      · exact s.seat_setChan_unpin ..
    all_goals rfl

theorem State.seat_exportContinue (s : State) (q : Request) : (s.exportContinue q).state.seat = s.seat := by
  have hchannel : ∀ c d, (s.continueChannel c d).state.seat = s.seat := fun c d => by
    unfold State.continueChannel
    split <;> rfl
  unfold State.exportContinue
  split
  · rfl
  · split
    · exact hchannel _ _
    · exact hchannel _ _
    · rfl

theorem State.seat_exportResume (s : State) : s.exportResume.state.seat = s.seat := by
  unfold State.exportResume
  split
  · split <;> rfl
  · rfl

/-! ### Events that leave the record and the parameters -/

theorem seat_openTransfer {s t : State} (h : s.openTransfer = .next t) : t.seat = s.seat := by
  unfold State.openTransfer at h
  split at h
  · unfold State.pullReady at h
    split at h
    · cases h; rfl
    · split at h
      · cases h; rfl
      · split at h
        · unfold State.sendPage at h
          dsimp only at h
          split at h
          · cases h; rfl
          · split at h <;> cases h
            rfl
        · cases h; rfl
  · cases h; rfl
  · cases h; rfl

theorem seat_writeLine {s t : State} {y : Nat} {bytes : List Byte} {after : Intake} (h : s.writeLine y bytes after = .next t) :
    t.seat = s.seat := by
  unfold State.writeLine at h
  split at h
  · cases h; rfl
  · split at h <;> cases h
    rfl

theorem seat_sensorLineEnd {s t : State} (h : execSensorLineEnd s = .next t) : t.seat = s.seat := by
  unfold execSensorLineEnd at h
  split at h
  · cases h; rfl
  · split at h
    · split at h
      · cases h; rfl
      · exact seat_writeLine h
    · cases h; rfl

theorem seat_sensorFrameEnd {s t : State} (h : execSensorFrameEnd s = .next t) : t.seat = s.seat := by
  unfold execSensorFrameEnd at h
  split at h
  · cases h; rfl
  · split at h
    · exact seat_writeLine h
    · cases h; rfl

/-- The drop of a presence line is a port reset at the tenancy unit; the halt it may cause leaves the record. -/
theorem State.keepsTenancy_lose (s : State) (p : Port) : s.KeepsTenancy (s.lose p) := by
  have hreset : s.KeepsTenancy ((s.setPort p { s.port p with present := false, write := none }).portReset p none) :=
    .after (State.keepsTenancy_portReset _ p none) rfl
  unfold State.lose
  dsimp only
  split
  · exact hreset.before (by simp [State.seat])
  · exact hreset

/-- The millisecond tick raises the idle time and evaluates; the blocks after the tenancy unit leave the record. -/
theorem State.seat_tick (s : State) (pause : Option Port) : ((s.clockTick pause).timelineTick.linkTick).seat = s.seat := by
  simp [State.seat]

/-! ### Every command -/

/-- Every command that answers a next state keeps the tenancy record consistent. -/
theorem exec_keepsTenancy {i : Instr} {s t : State} (h : exec i s = .next t) : s.KeepsTenancy t := by
  cases i with
  | partReset sense panel desk recorder => cases h; exact fun _ => Tenancy.consistent_nobody _
  | requestWrite p part | fetch p part => cases h; exact .of_same rfl
  | presenceRestored p => cases h; exact .of_same rfl
  | unknownRequestCode p =>
    cases h
    split
    · exact .refl s
    · split
      · exact .refl s
      · exact .of_same rfl
  | presenceLost p => exact State.keepsTenancy_ite h (s.keepsTenancy_lose p)
  | partRead p part =>
    cases part with
    | ask block => cases h; exact .of_same (by simp [State.seat])
    | rest => exact keepsTenancy_serveOpen h fun _ => .of_same rfl
  | setParam p => exact keepsTenancy_serveOpen h fun q => s.keepsTenancy_setParam p q
  | getParam p => exact keepsTenancy_serveOpen h fun q => .of_same (by rw [State.getParam_state])
  | portReset p => exact keepsTenancy_serveOpen h fun _ => s.keepsTenancy_portReset p _
  | claimView p => exact keepsTenancy_serveOpen h fun q => s.keepsTenancy_claim p q
  | releaseView p => exact keepsTenancy_serveOpen h fun _ => s.keepsTenancy_release p
  | withdrawClaim p => exact keepsTenancy_serveOpen h fun _ => s.keepsTenancy_withTenancy fun hc => hc.without p
  | tenancyRead p | viewRead p | pictureRead p | feedRead p | lessonRead p | exportRead p =>
    exact keepsTenancy_serveOpen h fun _ => .refl s
  | idleYield => exact State.keepsTenancy_ite h s.keepsTenancy_tenancyTick
  | zoomTo p | zoomBy p | panTo p | panBy p | blank p | unblank p => exact keepsTenancy_serveGated h fun _ _ => rfl
  | setSource p => exact keepsTenancy_serveGated h fun q u => u.seat_setSource p q
  | freeze p => exact keepsTenancy_serveGated h fun _ u => u.seat_freeze p
  | unfreeze p => exact keepsTenancy_serveGated h fun _ u => u.seat_unfreeze p
  | setClarity p => exact keepsTenancy_serveGated h fun q u => u.seat_setClarity q
  | setExposure p => exact keepsTenancy_serveGated h fun q u => u.seat_setExposure q
  | setLamp p => exact keepsTenancy_serveGated h fun q u => u.seat_setLamp q
  | setOutputMode p => exact keepsTenancy_serveGated h fun q u => u.seat_setOutputMode q
  | captureNow p | captureNext p => cases h; exact s.keepsTenancy_serve p _ _ fun q => .of_same (s.seat_capture p q)
  | discard p => exact keepsTenancy_serveOpen h fun q => .of_same (s.seat_discard p q)
  | label p => exact keepsTenancy_serveOpen h fun q => .of_same (s.seat_setLabel q)
  | pageRead p => exact keepsTenancy_serveOpen h fun q => .of_same (by rw [State.pageRead_state])
  | thumbRead p => exact keepsTenancy_serveOpen h fun q => .of_same (by rw [State.thumbRead_state])
  | lessonStart p => exact keepsTenancy_serveOpen h fun _ => .of_same (s.seat_lessonStart p)
  | lessonPause p => cases h; exact .of_same (by simp [State.seat])
  | lessonResume p => exact keepsTenancy_serveOpen h fun _ => .of_same (s.seat_lessonResume p)
  | lessonEnd p => exact keepsTenancy_serveOpen h fun _ => .of_same (s.seat_lessonEnd p)
  | lessonClear p => exact keepsTenancy_serveOpen h fun _ => .of_same s.seat_lessonClear
  | exportPage p => exact keepsTenancy_serveOpen h fun q => .of_same (s.seat_exportPage p q)
  | exportStop p => exact keepsTenancy_serveOpen h fun q => .of_same (s.seat_exportStop q)
  | exportContinue p => exact keepsTenancy_serveOpen h fun q => .of_same (s.seat_exportContinue q)
  | exportResume p => exact keepsTenancy_serveOpen h fun _ => .of_same s.seat_exportResume
  | sensorFrameStart elapsed => cases h; exact .of_same (by simp [State.seat])
  | sensorLineStart | sensorPixelPair pair =>
    cases h
    split
    · exact .refl s
    · exact .of_same rfl
  | sensorLineEnd => exact .of_same (seat_sensorLineEnd h)
  | sensorFrameEnd => exact .of_same (seat_sensorFrameEnd h)
  | frameCompletion =>
    cases h
    split
    · exact .of_same (by simp [State.seat])
    · exact .refl s
  | intakeWriteFault buffer => exact State.keepsTenancy_ite h (.of_same rfl)
  | stallEvent => exact State.keepsTenancy_ite h (.of_same (by simp [State.seat]))
  | lightFrameReport => cases h; exact .of_same (by simp [State.seat])
  | autoLampStep => exact State.keepsTenancy_ite h (.of_same (by simp [State.seat]))
  | motionFrameReport => cases h; exact .of_same (by simp [State.seat])
  | detectorFire => exact State.keepsTenancy_ite h (.of_same (by simp [State.seat]))
  | pageStoreFrameReport => cases h; exact .of_same (by simp [State.seat])
  | outputFrameStart => cases h; exact .of_same (by simp [State.seat])
  | feedStarted => exact State.keepsTenancy_ite h (.of_same (by simp [State.seat]))
  | sensePresent =>
    cases h
    split
    · exact .refl s
    · exact .of_same rfl
  | senseAbsent => exact State.keepsTenancy_ite h (.of_same rfl)
  | feedReadFault area buffer line pair =>
    cases h
    split
    · split
      · exact .of_same rfl
      · exact .refl s
    · exact .refl s
  | millisecondTick pause => cases h; exact s.keepsTenancy_tenancyTick.before (State.seat_tick _ pause)
  | clockCentisecond pause => exact State.keepsTenancy_ite h (.of_same (by simp [State.seat]))
  | timedCaptureExpiry pause => exact State.keepsTenancy_ite h (.of_same (by simp [State.seat]))
  | lampPulseStart => cases h; exact .of_same rfl
  | lampOnTimeEnd => exact State.keepsTenancy_ite h (.of_same rfl)
  | exportPull part =>
    cases part with
    | opening => exact .of_same (seat_openTransfer h)
    | clock count => cases h; exact .of_same (by simp [State.seat])
    | closing => cases h; exact .of_same (by simp [State.seat])
  | exportDeliveryCompleted => cases h; exact .of_same (by simp [State.seat])
  | exportDeliveryTimeout => exact State.keepsTenancy_ite h (.of_same (by simp [State.seat]))
  | exportLinkError => cases h; exact .of_same (by simp [State.seat])
  | exportMemoryFault channel buffer => exact State.keepsTenancy_ite h (.of_same (by simp [State.seat]))

/-- Every step of the part keeps the tenancy record consistent. -/
theorem step_keepsTenancy {s t : State} (h : step s = .next t) : s.KeepsTenancy t := by
  unfold step at h
  split at h
  · cases h; exact .of_same (by simp [State.seat])
  · exact .after (exec_keepsTenancy h) rfl

/-- Settles O7: each operation on the record leaves it consistent, and every other command leaves the record and the rank order. -/
theorem tenancyRecordStaysConsistent : Obligations.TenancyRecordStaysConsistent := fun s t hs h =>
  t.tenancyOk_iff.2 (step_keepsTenancy h (s.tenancyOk_iff.1 hs))

end Sys2Proof.Machine

/-! SUPPORT. Port resets: the ports that hear nothing of a handover, the record a reset leaves at its port, and what a reset comes to
at the tenancy unit and the blocks a handover reaches. -/
namespace Sys2Proof.Machine

/-! ### Ports that hear nothing (R116, R183) -/

theorem PortRec.take_absent {r : PortRec} (h : r.present = false) (n : Notice) : r.take n = r := if_pos h

/-- A notice posted to another port, or to an absent one, leaves a port's record. -/
theorem State.port_post_of {s : State} {p j : Port} (n : Notice) (h : (s.port p).present = false ∨ p ≠ j) :
    (s.post j n).port p = s.port p := by
  by_cases hj : p = j
  · subst hj
    rw [State.post, State.port_setPort_same]
    exact PortRec.take_absent (h.resolve_right (not_not.2 rfl)) n
  · exact s.port_setPort_other _ _ _ hj

theorem State.port_post_same (s : State) (p : Port) (n : Notice) : (s.post p n).port p = (s.port p).take n :=
  s.port_setPort_same _ _

theorem State.port_postAll_absent {s : State} {p : Port} (h : (s.port p).present = false) (n : Notice) (o : Option Port) :
    (s.postAll n o).port p = s.port p := by
  rw [State.port_postAll, PortRec.take_absent h, ite_self]

/-- A grant to the best waiter reaches the best waiter and, where it is told, the old holder. -/
theorem State.port_grantBest {s : State} {p : Port} (cause : TenancyCause) (tell : Bool)
    (hw : (s.port p).present = false ∨ ∀ w ∈ s.tenancy.waiters, w.port ≠ p)
    (hh : (s.port p).present = false ∨ tell = false ∨ s.tenancy.holder ≠ some p) :
    (s.grantBest cause tell).port p = s.port p := by
  unfold State.grantBest
  split
  · rfl
  · next w rest hwaiters =>
    have hbest : (s.port p).present = false ∨ p ≠ w.port :=
      hw.imp_right fun hne => (hne w (hwaiters ▸ List.mem_cons_self)).symm
    dsimp only
    split
    · next old hold =>
      split
      · next htell =>
        have hother : (s.port p).present = false ∨ p ≠ old :=
          hh.imp_right fun hne he => (hne.resolve_left (by simp [htell])) (by rw [hold, he])
        have hlost : ∀ t, ((s.handover t cause).post old (.viewLost cause w.port)).port p = s.port p :=
          fun t => State.port_post_of (s := s.handover t cause) _ hother
        rw [State.port_post_of _ (by rw [hlost]; exact hbest), hlost]
      · exact State.port_post_of _ hbest
    · exact State.port_post_of _ hbest

/-- The evaluation reaches only ports that hold the view or wait for it. -/
theorem State.port_evaluate {p : Port} (fuel : Nat) {s : State} (h : (s.port p).present = false ∨
    (s.tenancy.holder ≠ some p ∧ ∀ w ∈ s.tenancy.waiters, w.port ≠ p)) : (State.evaluate fuel s).port p = s.port p := by
  induction fuel generalizing s with
  | zero => rfl
  | succ fuel ih =>
    unfold State.evaluate
    split
    · next cause hdue =>
      have hport := State.port_grantBest cause true (h.imp_right fun ⟨_, hw⟩ => hw) (h.imp_right fun ⟨hh, _⟩ => .inr hh)
      rw [ih, hport]
      rw [hport]
      refine h.imp_right fun ⟨_, hw⟩ => ?_
      cases hwaiters : s.tenancy.waiters with
      | nil => simp [Tenancy.due, hwaiters] at hdue
      | cons w rest =>
        rw [State.grantBest_tenancy s cause true w rest hwaiters]
        rw [hwaiters] at hw
        obtain ⟨hfirst, hrest⟩ := List.forall_mem_cons.1 hw
        exact ⟨fun he => hfirst (Option.some.inj he), hrest⟩
    · rfl

/-- A port reset at the tenancy unit is not heard at a port that is absent or does not wait: the reset port is told nothing
(R118). -/
theorem State.port_tenancyReset {s : State} {p : Port}
    (h : (s.port p).present = false ∨ ∀ w ∈ s.tenancy.waiters, s.tenancy.holder ≠ some w.port) :
    (s.tenancyReset p).port p = s.port p := by
  unfold State.tenancyReset State.passOn
  split
  · next hh =>
    have hw : (s.port p).present = false ∨ ∀ w ∈ s.tenancy.waiters, w.port ≠ p :=
      h.imp_right fun hapart w hw he => hapart w hw (by rw [hh, he])
    split
    · rfl
    · next w rest hwaiters =>
      have hport := State.port_grantBest .portReset false hw (.inr (.inl rfl))
      rw [State.settle, State.port_evaluate, hport]
      rw [hport, State.grantBest_tenancy s .portReset false w rest hwaiters]
      rw [hwaiters] at hw
      refine hw.imp_right fun hne => ?_
      obtain ⟨hfirst, hrest⟩ := List.forall_mem_cons.1 hne
      exact ⟨fun he => hfirst (Option.some.inj he), hrest⟩
  · rfl

/-! ### Halts at an absent port (R166) -/

theorem State.port_unpin_absent {s : State} {p : Port} (h : (s.port p).present = false) (b : BufId) :
    (s.unpin b).port p = s.port p := by
  unfold State.unpin State.pinsGone
  dsimp only
  split
  · split
    · exact State.port_postAll_absent h _ none
    · rfl
  · rfl

theorem State.port_haltChannel_absent {s : State} {p : Port} (h : (s.port p).present = false) (c : Channel) :
    (s.haltChannel c).port p = s.port p := by
  unfold State.haltChannel
  split
  · next d _ => exact State.port_unpin_absent (s := s.setChan c (.used .halted d)) h _
  · rfl

theorem State.port_halt_absent {s : State} {p : Port} (h : (s.port p).present = false) (cause : HaltCause) :
    (s.halt cause).port p = s.port p := by
  unfold State.halt
  split
  · rfl
  · let down := s.withLink { s.link with state := .halted cause, halts := saturate16 s.link.halts, owed := [] }
    have hfirst : (down.haltChannel .ex0).port p = s.port p := State.port_haltChannel_absent (s := down) h .ex0
    have hsecond : ((down.haltChannel .ex0).haltChannel .ex1).port p = s.port p :=
      (State.port_haltChannel_absent (by rw [hfirst]; exact h) .ex1).trans hfirst
    have hdown : (((down.haltChannel .ex0).haltChannel .ex1).port p).present = false := by rw [hsecond]; exact h
    exact (State.port_postAll_absent hdown _ none).trans hsecond

/-! ### The handover's effect on the view (R115) -/

/-- The view unit after a handover: the staged zoom target at the active zoom current (R115). -/
def View.handedOver (v : View) : View := { v with staged := { v.staged with target := v.zoom } }

theorem State.view_grantBest (s : State) (cause : TenancyCause) (tell : Bool) (h : s.tenancy.waiters ≠ []) :
    (s.grantBest cause tell).view = s.view.handedOver := by
  unfold State.grantBest
  split
  · next hnil => exact absurd hnil h
  · dsimp only
    cases s.tenancy.holder with
    | none => rfl
    | some old => cases tell <;> rfl

theorem State.view_evaluate (fuel : Nat) {s : State} (h : s.view.handedOver = s.view) : (State.evaluate fuel s).view = s.view := by
  induction fuel generalizing s with
  | zero => rfl
  | succ fuel ih =>
    unfold State.evaluate
    split
    · next cause hdue =>
      have hwaiting : s.tenancy.waiters ≠ [] := by
        intro hnil
        simp [Tenancy.due, hnil] at hdue
      have hview := (s.view_grantBest cause true hwaiting).trans h
      rw [ih (by rw [hview, h]), hview]
    · rfl

/-- However many handovers a pass of the view comes to, the view unit's share is the first one's. -/
theorem State.view_passOn (s : State) (cause : TenancyCause) : (s.passOn cause).view = s.view.handedOver := by
  unfold State.passOn
  split
  · rfl
  · next hwaiters =>
    have hview := s.view_grantBest cause false (by rw [hwaiters]; exact List.cons_ne_nil _ _)
    rw [State.settle, State.view_evaluate, hview]
    rw [hview]
    rfl

theorem State.view_tenancyReset (s : State) (p : Port) :
    (s.tenancyReset p).view = if s.tenancy.holder = some p then s.view.handedOver else s.view := by
  unfold State.tenancyReset
  split
  · exact s.view_passOn _
  · rfl

/-! ### The best waiter against those behind it (R107, R111) -/

/-- The ports of a rank order stand in the order of their ranks. -/
theorem rankList_pairwise (order : Nat) : (rankList order).Pairwise fun p q => (rankList order).idxOf p < (rankList order).idxOf q := by
  unfold rankList
  split <;> decide

/-- After a grant to the best waiter no condition holds: no waiter outranks it, and it has not been idle. -/
theorem Tenancy.Consistent.due_granted {t : Tenancy} {params : Params} (h : t.Consistent params.rankOrder) {w : Waiter}
    {rest : List Waiter} (hw : t.waiters = w :: rest) (hdelay : 0 < params.yieldDelay) :
    Tenancy.due { holder := some w.port, holdFast := w.holdFast, singleUse := w.singleUse, idle := 0, waiters := rest } params = none := by
  cases rest with
  | nil => rfl
  | cons x rest =>
    have hsorted := (rankList_pairwise params.rankOrder).sublist h.ranked
    rw [hw] at hsorted
    have hbefore := List.rel_of_pairwise_cons hsorted (List.mem_map_of_mem (f := fun w : Waiter => w.port) List.mem_cons_self)
    rw [Statements.due_eq rfl rfl, if_neg fun hout => Nat.lt_asymm hbefore hout.1, if_neg]
    rw [Statements.idleDue_iff]
    rintro ⟨hle, -⟩
    dsimp only at hle
    split at hle <;> omega

/-! ### The record of a port after a reset (R184, R185) -/

/-- A reset that keeps no slot. -/
theorem PortRec.cleared_none (r : PortRec) :
    r.cleared none = { r with
      slots := Vector.replicate 4 .free, order := [], notices := [], lost := false, mask := 31, answers := []
      fetch := r.fetch.map fun f => { f with live := false, taken := false } } := by
  have hslots : (Vector.ofFn fun _ : Fin 4 => Slot.free) = Vector.replicate 4 .free := rfl
  simp only [PortRec.cleared, reduceCtorEq, if_false, decide_false, List.filter_false, hslots]

/-- A reset that keeps slot `k` keeps its contents and frees the other slots. -/
theorem PortRec.cleared_slot (r : PortRec) (k j : Fin 4) : (r.cleared (some k)).slots[j] = if j = k then r.slots[k] else .free := by
  simp only [PortRec.cleared, Fin.getElem_fin, Vector.getElem_ofFn, Option.some.injEq, Fin.eta]
  by_cases h : j = k
  · rw [if_pos h.symm, if_pos h, h]
  · rw [if_neg (Ne.symm h), if_neg h]

/-- A reset that keeps slot `k` leaves it alone in the taking order. -/
theorem PortRec.cleared_order {r : PortRec} {k : Fin 4} (hk : k ∈ r.order) (hd : r.order.Nodup) : (r.cleared (some k)).order = [k] := by
  have hsame : (fun j : Fin 4 => decide (some k = some j)) = fun j => j == k := by
    funext j
    rw [Bool.eq_iff_iff, decide_eq_true_iff, beq_iff_eq, Option.some.injEq, eq_comm]
  simp only [PortRec.cleared, hsame, List.filter_beq, List.count_eq_one_of_mem hd hk, List.replicate_one]

/-- The request handed on stands in the taking order. -/
theorem PortRec.mem_order_of_current {r : PortRec} {k : Fin 4} {q : Request} (h : r.current = some (k, q)) : k ∈ r.order := by
  have hfound : ∀ f : Fin 4 → Option Request, (r.order.findSome? fun j => (f j).map fun q => (j, q)) = some (k, q) → k ∈ r.order := by
    intro f hf
    obtain ⟨j, hj, he⟩ := List.exists_of_findSome?_eq_some hf
    obtain ⟨x, -, hx⟩ := Option.map_eq_some_iff.1 he
    obtain ⟨rfl, -⟩ := Prod.mk.inj hx
    exact hj
  unfold PortRec.current at h
  split at h
  · next x hx =>
    obtain rfl := Option.some.inj h
    exact hfound _ hx
  · exact hfound _ h

end Sys2Proof.Machine

namespace Sys2Proof.Statements

open Sys2Proof.Machine

/-! ### Port resets at the tenancy unit (R118) -/

/-- A grant on which the evaluation that follows it has nothing to do. -/
theorem settle_granted {s : State} (hs : s.tenancyOk) {w : Waiter} {rest : List Waiter} (hw : s.tenancy.waiters = w :: rest)
    (hdelay : 0 < s.params.yieldDelay) (cause : Nat) (n : Notice) :
    ((afterHandover s { holder := some w.port, holdFast := w.holdFast, singleUse := w.singleUse, idle := 0, waiters := rest }
        cause).post w.port n).settle =
      (afterHandover s { holder := some w.port, holdFast := w.holdFast, singleUse := w.singleUse, idle := 0, waiters := rest }
        cause).post w.port n :=
  settle_of_due_none ((s.tenancyOk_iff.1 hs).due_granted hw hdelay)

theorem tenancyReset_other {s : State} {p : Port} (h : s.tenancy.holder ≠ some p) :
    s.tenancyReset p = s.withTenancy (s.tenancy.without p) := if_neg h

theorem tenancyReset_holder {s : State} {p : Port} (h : s.tenancy.holder = some p) : s.tenancyReset p = s.passOn .portReset := if_pos h

/-- The part once port `p`'s presence line has dropped, before the halt of the export link (R184). -/
def dropped (s : State) (p : Port) : State := (s.setPort p { s.port p with present := false, write := none }).portReset p none

/-- The record of port `p` once its presence line has dropped. -/
def droppedRec (s : State) (p : Port) : PortRec :=
  { s.port p with
    present := false, slots := Vector.replicate 4 .free, order := [], notices := [], lost := false, mask := 31
    fetch := (s.port p).fetch.map fun f => { f with live := false, taken := false }, write := none, answers := [] }

theorem dropped_eq (s : State) (p : Port) : dropped s p = (s.setPort p (droppedRec s p)).tenancyReset p := by
  rw [dropped, State.portReset, State.port_setPort_same, State.setPort_setPort_same, PortRec.cleared_none]
  rfl

theorem portDropped_dropped (s : State) (p : Port) : PortDropped s p (dropped s p) := by
  let u := s.setPort p (droppedRec s p)
  refine ⟨droppedRec s p, rfl, fun hother => ?_, fun hh hw => ?_, fun w rest given hh hw hgiven => ?_⟩
  · exact (dropped_eq s p).trans (tenancyReset_other (s := u) hother)
  · exact (dropped_eq s p).trans ((tenancyReset_holder (s := u) hh).trans (passOn_nobody (s := u) hw _))
  · have hpass : dropped s p = given.settle := by
      rw [hgiven]
      exact (dropped_eq s p).trans ((tenancyReset_holder (s := u) hh).trans (passOn_best (s := u) hh hw _))
    refine ⟨hpass, fun hs hdelay => hpass.trans ?_⟩
    rw [hgiven]
    exact settle_granted (s := u) hs hw hdelay 7 _

/-- The port itself hears nothing of what its reset comes to. -/
theorem port_dropped (s : State) (p : Port) : (dropped s p).port p = droppedRec s p := by
  rw [dropped_eq, State.port_tenancyReset (.inl (by rw [State.port_setPort_same]; rfl)), State.port_setPort_same]

theorem dropped_keeps (s : State) (p : Port) :
    (dropped s p).mem = s.mem ∧ (dropped s p).timer = s.timer ∧ (dropped s p).pool = s.pool ∧ (dropped s p).intake = s.intake ∧
      (dropped s p).light = s.light ∧ (dropped s p).motion = s.motion ∧ (dropped s p).feed = s.feed ∧
      (dropped s p).store = s.store ∧ (dropped s p).lesson = s.lesson ∧ (dropped s p).link = s.link ∧
      (dropped s p).params = s.params ∧ (dropped s p).pending = s.pending := by
  simp [dropped]

/-- A drop changes the port records, the tenancy record, the timeline and the view unit. -/
theorem dropped_frame (s : State) (p : Port) : dropped s p = { s with
    ports := (dropped s p).ports, tenancy := (dropped s p).tenancy, timeline := (dropped s p).timeline
    view := if s.tenancy.holder = some p then { s.view with staged := { s.view.staged with target := s.view.zoom } } else s.view } := by
  have hview : (dropped s p).view = if s.tenancy.holder = some p then s.view.handedOver else s.view := by
    rw [dropped_eq]
    exact State.view_tenancyReset _ p
  obtain ⟨hmem, htimer, hpool, hintake, hlight, hmotion, hfeed, hstore, hlesson, hlink, hparams, hpending⟩ := dropped_keeps s p
  simp only [View.handedOver] at hview
  rw [← hview, ← hmem, ← htimer, ← hpool, ← hintake, ← hlight, ← hmotion, ← hfeed, ← hstore, ← hlesson, ← hlink, ← hparams,
    ← hpending]

/-! ### Halts (R156, R162, R165, R166) -/

theorem haltChannel_eq (s : State) (c : Channel) : s.haltChannel c = channelHalted s c := by
  unfold State.haltChannel channelHalted
  cases s.link.chan c with
  | idle => rfl
  | used phase d => cases phase <;> rfl

/-- A halt event in READY or DELIVERING. -/
theorem halt_eq {s : State} (h : ∀ cause, s.link.state ≠ .halted cause) (cause : HaltCause) : s.halt cause = linkHalted s cause := by
  have hnow : s.haltNow cause = linkHalted s cause := by
    simp only [State.haltNow, haltChannel_eq]
    cases hs : s.link.state with
    | halted x => exact absurd hs (h x)
    | _ => simp only [linkHalted, hs]; rfl
  rw [← hnow]
  unfold State.halt
  split
  · exact absurd ‹_› (h _)
  · rfl

/-- A halt event in HALTED. -/
theorem halt_halted {s : State} {x : HaltCause} (h : s.link.state = .halted x) (cause : HaltCause) : s.halt cause = s := by
  simp only [State.halt, h]

theorem not_halted_of_delivering {l : LinkState} {b : Block} (h : l = .delivering b) (cause : HaltCause) : l ≠ .halted cause := by
  simp [h]

theorem linkTick_idle {s : State} (h : s.link.state.block? = none) : s.linkTick = s := by
  cases hs : s.link.state with
  | delivering b => simp [hs, LinkState.block?] at h
  | _ => simp only [State.linkTick, hs]

theorem linkTick_delivering {s : State} {b : Block} (h : s.link.state = .delivering b) :
    s.linkTick = if s.params.exportTimeout ≤ s.link.time + 1 then
        State.halt { s with link := { s.link with time := s.link.time + 1 } } .timeout
      else { s with link := { s.link with time := s.link.time + 1 } } := by
  simp only [State.linkTick, h]
  rfl

theorem exec_deliveryTimeout_due {s : State} {b : Block} (h : s.link.state = .delivering b)
    (hdue : s.params.exportTimeout ≤ s.link.time + 1) : exec .exportDeliveryTimeout s = .next s.linkTick :=
  congrArg Host.Outcome.next (if_pos (decide_eq_true ⟨by rw [h]; rfl, hdue⟩))

theorem exec_deliveryTimeout_early {s : State} (h : s.link.state.block? = none ∨ s.link.time + 1 < s.params.exportTimeout) :
    exec .exportDeliveryTimeout s = .next s := by
  refine congrArg Host.Outcome.next (if_neg fun hdue => ?_)
  obtain ⟨hblock, hle⟩ := of_decide_eq_true hdue
  rcases h with hnone | hlt
  · simp [hnone] at hblock
  · exact absurd hle (Nat.not_le.2 hlt)

/-- A transfer closed before the last byte of what it carries is closed, and a link error. -/
theorem exec_closing_broken {s : State}
    (h : (s.link.transfer = .block ∧ s.link.owed ≠ []) ∨ ∃ rest, rest ≠ [] ∧ s.link.transfer = .header rest) :
    exec (.exportPull .closing) s = .next (State.halt { s with link := { s.link with transfer := .closed } } .linkError) := by
  have hbroken : s.link.brokenOff = true ∧ s.link.afterClosing = .closed := by
    unfold Link.brokenOff Link.afterClosing
    obtain ⟨htransfer, howed⟩ | ⟨rest, hrest, htransfer⟩ := h
    · simp [htransfer, howed]
    · simp [htransfer, hrest]
  obtain ⟨hoff, hafter⟩ := hbroken
  refine congrArg Host.Outcome.next ((if_pos hoff).trans ?_)
  rw [hafter]
  rfl

theorem exec_memoryFault_due {s : State} {b : Block} {c : Channel} {d : ChanData} (h : s.link.state = .delivering b)
    (hc : b.channel = some c) (hk : b.kind = .pageData) (hd : s.link.chan c = .used .active d ∨ s.link.chan c = .used .stopping d) :
    exec (.exportMemoryFault c d.buffer) s = .next (s.halt .memory) := by
  have hpinning : (s.link.chan c).pinning? = some d := by rcases hd with hd | hd <;> rw [hd] <;> rfl
  exact congrArg Host.Outcome.next (if_pos (by simp [State.readsFor, h, hc, hk, hpinning]))

theorem exec_memoryFault_halted {s : State} {cause : HaltCause} (h : s.link.state = .halted cause) (c : Channel) (x : BufId) :
    exec (.exportMemoryFault c x) s = .next s :=
  congrArg Host.Outcome.next (if_neg (by simp [State.readsFor, h]))

/-- The drop of a presence line: the recorder's halts the link after it. -/
theorem exec_presenceLost {s : State} {p : Port} (h : (s.port p).present = true) :
    exec (.presenceLost p) s = .next (if p = .recorder then (dropped s p).halt .linkDown else dropped s p) :=
  congrArg Host.Outcome.next (if_pos h)

/-- Settles O57, event by event: each halts a link that is not HALTED, and the recorder's presence line is dropped first. -/
theorem haltEventsStopTheLink : Obligations.HaltEventsStopTheLink := by
  intro s
  refine ⟨fun hnone => ⟨linkTick_idle hnone, exec_deliveryTimeout_early (.inl hnone)⟩, fun b t hb ht => ?_,
    fun hup => congrArg Host.Outcome.next (halt_eq hup .linkError), fun hbroken t ht => ?_,
    fun cause hdown => ⟨congrArg Host.Outcome.next (halt_halted hdown .linkError), fun c x => exec_memoryFault_halted hdown c x⟩,
    fun b c d hb hc hk hd => ?_, fun hpresent => ?_⟩
  · subst ht
    have htick := linkTick_delivering hb
    refine ⟨fun hlt => ⟨htick.trans (if_neg (Nat.not_le.2 hlt)), exec_deliveryTimeout_early (.inr hlt)⟩, fun hle => ?_⟩
    rw [if_pos hle, halt_eq (by exact not_halted_of_delivering hb)] at htick
    exact ⟨htick, (exec_deliveryTimeout_due hb hle).trans (congrArg Host.Outcome.next htick)⟩
  · subst ht
    refine ⟨fun hup => ?_, fun cause hdown => ?_⟩
    · rw [exec_closing_broken hbroken, halt_eq (by exact hup)]
    · rw [exec_closing_broken hbroken, halt_halted (by exact hdown)]
  · rw [exec_memoryFault_due hb hc hk hd, halt_eq (not_halted_of_delivering hb)]
  · have hlink : (dropped s .recorder).link = s.link := by simp [dropped]
    have hport := port_dropped s .recorder
    refine ⟨dropped s .recorder, portDropped_dropped s .recorder, fun hup => ?_, fun cause hdown => ?_, dropped_frame s .recorder,
      by rw [hport]; rfl, by rw [hport]; rfl, fun hother => ?_⟩
    · rw [exec_presenceLost hpresent, if_pos rfl, halt_eq (by rw [hlink]; exact hup)]
    · rw [exec_presenceLost hpresent, if_pos rfl, halt_halted (by rw [hlink]; exact hdown)]
    · have hreset := (dropped_eq s .recorder).trans (tenancyReset_other (s := s.setPort .recorder (droppedRec s .recorder)) hother)
      rw [hreset]
      exact ⟨rfl, rfl, fun j hj => s.port_setPort_other _ _ _ hj⟩

/-! ### Port resets at the port (R115, R184, R185) -/

/-- A reply to slot `k` hands on no slot that is FREE. -/
theorem placeReply_free {r : PortRec} {k j : Fin 4} (reply : Reply) (hj : j ≠ k) (h : r.slots[j] = .free) :
    (r.placeReply k reply).slots[j] = .free := by
  have hslot : ({ r with slots := r.slots.set k (.replied reply) } : PortRec).slots[j] = .free := by
    rw [← h]
    exact Vector.getElem_set_ne k.isLt j.isLt (by simpa [Fin.ext_iff] using hj.symm)
  rcases PortRec.handOn_slot { r with slots := r.slots.set k (.replied reply) } j with hsame | ⟨q, hwaiting, -⟩
  · exact hsame.trans hslot
  · rw [hslot] at hwaiting
    cases hwaiting

/-- A handover from a holder, with the old holder's number in the timeline's entry. -/
theorem afterHandover_holder {s : State} {p : Port} (hh : s.tenancy.holder = some p) (r : Tenancy) (cause : Nat) :
    afterHandover s r cause = { s with
      tenancy := { r with idle := 0 }
      view := { s.view with staged := { s.view.staged with target := s.view.zoom } }
      timeline := s.timeline.offer s.lesson.state s.lesson.time
        { kind := .tenantChanged, port := r.holder, page := none, view := none, extra := 256 * portNumber p + cause } } := by
  simp only [afterHandover, hh, portCode]

/-- A port that drops has nothing to show on its attention line. -/
theorem attention_droppedRec (s : State) (p : Port) : (droppedRec s p).attention = false := by
  have hslots : (List.finRange 4).any (fun k => ((droppedRec s p).slots[k]).isReplied) = false := rfl
  have hremoving : (droppedRec s p).removing = false := by
    unfold PortRec.removing droppedRec
    cases (s.port p).fetch <;> rfl
  rw [PortRec.attention, hslots, hremoving]
  rfl

/-- What the drop of a presence line leaves at its own port, also where the link halts after it. -/
theorem port_presenceLost (s : State) (p : Port) :
    (if p = .recorder then (dropped s p).halt .linkDown else dropped s p).port p = droppedRec s p := by
  have hport := port_dropped s p
  split
  · rw [State.port_halt_absent (by rw [hport]; rfl), hport]
  · exact hport

section
variable {s : State} {p : Port} {w : Waiter} {rest : List Waiter}

/-- A holder's drop while a port waits: the best waiter has the view, and the evaluation ends there. -/
theorem dropped_granted (hh : s.tenancy.holder = some p) (hw : s.tenancy.waiters = w :: rest) (hs : s.tenancyOk)
    (hdelay : 0 < s.params.yieldDelay) :
    dropped s p = (afterHandover (s.setPort p (droppedRec s p)) { holder := some w.port, holdFast := w.holdFast
                                                                  singleUse := w.singleUse, idle := 0, waiters := rest } 7).post
      w.port (.viewGranted (some p) w.holdFast w.singleUse .portReset) :=
  ((dropped_eq s p).trans ((tenancyReset_holder (s := s.setPort p (droppedRec s p)) hh).trans
    (passOn_best (s := s.setPort p (droppedRec s p)) hh hw _))).trans
    (settle_granted (s := s.setPort p (droppedRec s p)) hs hw hdelay _ _)

/-- The ports after a grant by the reset port `p`: the best waiter takes its notice, the others are as they were. -/
theorem ports_granted (hp : w.port ≠ p) (r : PortRec) (x : Tenancy) (cause : Nat) (n : Notice) :
    ((afterHandover (s.setPort p r) x cause).post w.port n).port w.port = (s.port w.port).take n ∧
      ∀ j, j ≠ p → j ≠ w.port → ((afterHandover (s.setPort p r) x cause).post w.port n).port j = s.port j := by
  refine ⟨?_, fun j hj hjw => ?_⟩
  · rw [State.port_post_same]
    exact congrArg (fun r : PortRec => r.take n) (s.port_setPort_other p w.port r hp)
  · exact (State.port_post_of (s := afterHandover (s.setPort p r) x cause) n (.inr hjw)).trans (s.port_setPort_other p j r hj)

theorem waiter_ne_holder (hs : s.tenancyOk) (hh : s.tenancy.holder = some p) (hw : s.tenancy.waiters = w :: rest) : w.port ≠ p :=
  (s.tenancyOk_iff.1 hs).apart_of hh (by rw [hw]; exact List.mem_cons_self)

end

/-- The part once PORT_RESET has been carried out for the request in slot `k` of port `p`, before its reply. -/
def portWasReset (s : State) (p : Port) (k : Fin 4) : State := (s.setPort p ((s.port p).cleared (some k))).tenancyReset p

theorem exec_portReset {s : State} {p : Port} {k : Fin 4} {q : Request} (hands : Hands s p k q 0x04 []) :
    exec (.portReset p) s = .next ((portWasReset s p k).reply p k q .ok []) := by
  have hanswer : s.resetOwn p = .ok (portWasReset s p k) [] := by
    obtain ⟨hc, -⟩ := hands
    rw [State.resetOwn, hc]
    rfl
  exact serveOpen_answer (fun _ s => s.resetOwn p) hands rfl rfl hanswer

/-- The port's own record after PORT_RESET: the tenancy unit tells it nothing. -/
theorem port_portWasReset {s : State} (hs : s.tenancyOk) (p : Port) (k : Fin 4) :
    (portWasReset s p k).port p = (s.port p).cleared (some k) := by
  have hport := State.port_tenancyReset (s := s.setPort p ((s.port p).cleared (some k))) (p := p) (.inr (s.tenancyOk_iff.1 hs).apart)
  rw [State.port_setPort_same] at hport
  exact hport

/-- The port's own record once its reply stands. -/
theorem port_portReset_reply {s : State} (hs : s.tenancyOk) (p : Port) (k : Fin 4) (q : Request) :
    ((portWasReset s p k).reply p k q .ok []).port p =
      ((s.port p).cleared (some k)).placeReply k { tag := q.tag, status := .ok, results := [] } := by
  rw [State.reply, State.port_setPort_same, port_portWasReset hs]

section
variable {s : State} {p : Port} {w : Waiter} {rest : List Waiter} (k : Fin 4)

theorem portWasReset_other (hother : s.tenancy.holder ≠ some p) :
    portWasReset s p k = (s.setPort p ((s.port p).cleared (some k))).withTenancy (s.tenancy.without p) :=
  tenancyReset_other (s := s.setPort p ((s.port p).cleared (some k))) hother

theorem portWasReset_nobody (hh : s.tenancy.holder = some p) (hw : s.tenancy.waiters = []) :
    portWasReset s p k = afterHandover (s.setPort p ((s.port p).cleared (some k))) nobody 7 :=
  (tenancyReset_holder (s := s.setPort p ((s.port p).cleared (some k))) hh).trans (passOn_nobody (by exact hw) _)

theorem portWasReset_best (hh : s.tenancy.holder = some p) (hw : s.tenancy.waiters = w :: rest) :
    portWasReset s p k =
      ((afterHandover (s.setPort p ((s.port p).cleared (some k))) { holder := some w.port, holdFast := w.holdFast
                                                                    singleUse := w.singleUse, idle := 0, waiters := rest } 7).post
        w.port (.viewGranted (some p) w.holdFast w.singleUse .portReset)).settle :=
  (tenancyReset_holder (s := s.setPort p ((s.port p).cleared (some k))) hh).trans (passOn_best (by exact hh) (by exact hw) _)

theorem portWasReset_granted (hh : s.tenancy.holder = some p) (hw : s.tenancy.waiters = w :: rest) (hs : s.tenancyOk)
    (hdelay : 0 < s.params.yieldDelay) :
    portWasReset s p k =
      (afterHandover (s.setPort p ((s.port p).cleared (some k))) { holder := some w.port, holdFast := w.holdFast
                                                                   singleUse := w.singleUse, idle := 0, waiters := rest } 7).post
        w.port (.viewGranted (some p) w.holdFast w.singleUse .portReset) :=
  (portWasReset_best k hh hw).trans (settle_granted (s := s.setPort p ((s.port p).cleared (some k))) hs hw hdelay _ _)

end

/-- Settles O19. A reset leaves its own record at the port, which hears nothing; the tenancy unit's share is by the holder and the
wait set; the presence line's drop is the reset that keeps no slot. -/
theorem portResetEmptiesThePort : Obligations.PortResetEmptiesThePort := by
  refine ⟨fun s p k q hands hd hs => ?_, fun s p hpresent => ?_, fun s p w rest hpresent hh hw hs hdelay => ?_, fun s p => rfl⟩
  · have hport := port_portReset_reply hs p k q
    have horder : ((s.port p).cleared (some k)).order = [k] := by
      obtain ⟨hc, -⟩ := hands
      exact PortRec.cleared_order (PortRec.mem_order_of_current hc) hd
    obtain ⟨hpresent, horder', hnotices, hlost, hmask, hfetch, hwrite, hdriven, hanswers⟩ :=
      ((s.port p).cleared (some k)).placeReply_keeps k { tag := q.tag, status := .ok, results := [] }
    have hempty : (((portWasReset s p k).reply p k q .ok []).port p).notices = [] := by rw [hport, hnotices]; rfl
    refine ⟨_, exec_portReset hands, State.reply_slot .., fun j hj => ?_, ?_, ?_, ?_, ?_, ?_, ?_, ?_, ?_, fun hother => ?_,
      fun hh hw => ?_, fun w rest hh hw => ⟨⟨(s.port p).cleared (some k), ?_, ?_, ?_⟩, fun hdelay => ?_⟩⟩
    · rw [hport]
      exact placeReply_free _ hj ((PortRec.cleared_slot _ k j).trans (if_neg hj))
    · rw [hport, horder', horder]
    · rw [hport, hlost]; rfl
    · rw [hport, hmask]; rfl
    · rw [hport, hpresent]; rfl
    · rw [hport, hwrite]; rfl
    · rw [hport, hdriven]; rfl
    · rw [hport, hanswers]; rfl
    · rw [hport, hfetch]; rfl
    · refine ⟨hempty, fun j hj => ?_, by rw [portWasReset_other k hother]; rfl⟩
      rw [State.reply_other _ _ _ _ _ _ _ hj, portWasReset_other k hother]
      exact s.port_setPort_other p j _ hj
    · have hreset := portWasReset_nobody k hh hw
      refine ⟨hempty, fun j hj => ?_, by rw [hreset, afterHandover_holder (by exact hh)]; rfl⟩
      rw [State.reply_other _ _ _ _ _ _ _ hj, hreset]
      exact s.port_setPort_other p j _ hj
    · rw [← horder]
      rfl
    · exact (PortRec.cleared_slot _ k k).trans (if_pos rfl)
    · rw [portWasReset_best k hh hw]
    · have hgrant := portWasReset_granted k hh hw hs hdelay
      have hp := waiter_ne_holder hs hh hw
      have hports := ports_granted (s := s) hp ((s.port p).cleared (some k)) { holder := some w.port, holdFast := w.holdFast
                                                                               singleUse := w.singleUse, idle := 0, waiters := rest }
        7 (.viewGranted (some p) w.holdFast w.singleUse .portReset)
      rw [← hgrant] at hports
      obtain ⟨hbest, hothers⟩ := hports
      refine ⟨by rw [hgrant]; rfl, hempty, ?_, fun j hj hjw => ?_, by rw [hgrant, afterHandover_holder (by exact hh)]; rfl⟩
      · rw [State.reply_other _ _ _ _ _ _ _ hp, hbest]
      · rw [State.reply_other _ _ _ _ _ _ _ hj, hothers j hj hjw]
  · have hport := port_presenceLost s p
    refine ⟨_, exec_presenceLost hpresent, ?_, fun j => ?_, ?_, ?_, ?_, ?_, ?_, ?_, ?_, ?_, ?_, fun hquiet => ?_⟩
    · rw [hport]; rfl
    · rw [hport]
      exact Vector.getElem_replicate ..
    · rw [hport]; rfl
    · rw [hport]; rfl
    · rw [hport]; rfl
    · rw [hport]; rfl
    · rw [hport]; exact attention_droppedRec s p
    · rw [hport]; rfl
    · rw [hport]; rfl
    · rw [hport]; rfl
    · rw [hport]; rfl
    · have hsame : (if p = .recorder then (dropped s p).halt .linkDown else dropped s p) = dropped s p := by
        split
        · next hp =>
          obtain ⟨cause, hdown⟩ := hquiet.resolve_left (not_not.2 hp)
          have hlink : (dropped s p).link = s.link := by simp [dropped]
          exact halt_halted (by rw [hlink]; exact hdown) _
        · rfl
      rw [hsame]
      exact portDropped_dropped s p
  · have hgrant := dropped_granted hh hw hs hdelay
    refine ⟨_, exec_presenceLost hpresent, ?_, fun hp => ?_⟩
    · have hkept : (if p = .recorder then (dropped s p).halt .linkDown else dropped s p).tenancy = (dropped s p).tenancy := by
        split <;> simp
      rw [hkept, hgrant]
      rfl
    · rw [if_neg hp, hgrant]
      exact ports_granted (waiter_ne_holder hs hh hw) _ _ _ _
end Sys2Proof.Statements

/-! SUPPORT. The page table: its invariant record by record, what keeps it when a record is replaced, and the operations that replace
one. -/
namespace Sys2Proof.Machine

open Sys2Proof.Statements

/-! ### The invariant (R120–R123) -/

/-- The page table in words of its records: no serial is held twice, each lies in 1 to 65535, and the store list holds the STORED
slots, each once (R121–R123). -/
structure Store.Ok (st : Store) : Prop where
  distinct : ∀ j k n, (st.page j).serial? = some n → (st.page k).serial? = some n → j = k
  range : ∀ k n, (st.page k).serial? = some n → 1 ≤ n ∧ n ≤ 65535
  nodup : st.list.Nodup
  listed : ∀ k, k ∈ st.list ↔ (st.page k).isStored = true
  last : st.lastSerial ≤ 65535

/-- The list of the serials repeats none exactly where no two records hold the same. -/
theorem Store.nodup_serials (st : Store) :
    st.serials.Nodup ↔ ∀ j k n, (st.page j).serial? = some n → (st.page k).serial? = some n → j = k := by
  unfold Store.serials List.Nodup
  rw [List.pairwise_filterMap]
  constructor
  · intro h j k n hj hk
    by_contra hne
    have hsymm : Std.Symm fun a b : SlotId =>
        ∀ n, (st.page a).serial? = some n → ∀ m, (st.page b).serial? = some m → n ≠ m :=
      ⟨fun a b hab n hn m hm => (hab m hm n hn).symm⟩
    exact h.forall (List.mem_finRange j) (List.mem_finRange k) hne n hj n hk rfl
  · intro h
    refine (List.nodup_finRange 20).pairwise_of_forall_ne fun j _ k _ hne n hj m hk hnm => hne ?_
    exact h j k n hj (hnm ▸ hk)

theorem State.storeOk_iff (s : State) : s.storeOk ↔ s.store.Ok := by
  constructor
  · rintro ⟨hnodup, hrange, hlist, hlisted, hlast⟩
    exact ⟨s.store.nodup_serials.1 hnodup, fun k n hk => hrange n (mem_serials.2 ⟨k, hk⟩), hlist, hlisted, hlast⟩
  · rintro ⟨hdistinct, hrange, hlist, hlisted, hlast⟩
    refine ⟨s.store.nodup_serials.2 hdistinct, fun n hn => ?_, hlist, hlisted, hlast⟩
    obtain ⟨k, hk⟩ := mem_serials.1 hn
    exact hrange k n hk

/-! ### The serial drawn next (R122) -/

/-- Among 21 serials one is held by none of the 20 records, so a serial can be drawn. -/
theorem exists_serialDrawn (st : Store) : ∃ n, SerialDrawn st n := by
  have hfree : ∃ steps, ¬ ∃ k : SlotId, (st.page k).serial? = some (serialAt st steps) := by
    by_contra hall
    push Not at hall
    have hle := serials_held_le (st := st) (steps := 21) fun i _ => hall i
    omega
  classical
  refine ⟨serialAt st (Nat.find hfree), Nat.find hfree, rfl, fun k hk => Nat.find_spec hfree ⟨k, hk⟩, fun i hi => ?_⟩
  exact not_not.1 (Nat.find_min hfree hi)

theorem Store.nextSerial_drawn (st : Store) : SerialDrawn st st.nextSerial := by
  obtain ⟨n, hn⟩ := exists_serialDrawn st
  rw [hn.nextSerial]
  exact hn

theorem Store.nextSerial_range (st : Store) : 1 ≤ st.nextSerial ∧ st.nextSerial ≤ 65535 := by
  obtain ⟨steps, hn, -⟩ := st.nextSerial_drawn
  omega

/-! ### One record replaced -/

/-- A record fits slot `k`: its serial, if it holds one, is in range and held by no other record. -/
def Store.Fits (st : Store) (k : SlotId) (r : PageRec) : Prop :=
  ∀ n, r.serial? = some n → (1 ≤ n ∧ n ≤ 65535) ∧ ∀ j, j ≠ k → (st.page j).serial? ≠ some n

theorem Store.fits_empty (st : Store) (k : SlotId) : st.Fits k .empty := fun n hn => by cases hn

/-- A record with the serial of the one it replaces fits. -/
theorem Store.Ok.fits_same {st : Store} (h : st.Ok) {k : SlotId} {r : PageRec} (hr : r.serial? = (st.page k).serial?) :
    st.Fits k r := by
  intro n hn
  rw [hr] at hn
  exact ⟨h.range k n hn, fun j hj hjn => hj (h.distinct j k n hjn hn)⟩

/-- A record with the serial drawn next fits. -/
theorem Store.fits_drawn (st : Store) (k : SlotId) {r : PageRec} (hr : r.serial? = some st.nextSerial) : st.Fits k r := by
  intro n hn
  rw [hr] at hn
  cases hn
  obtain ⟨-, -, hfree, -⟩ := st.nextSerial_drawn
  exact ⟨st.nextSerial_range, fun j _ => hfree j⟩

/-- The table with a record that fits in slot `k`, and a store list of the slots that are then STORED. -/
theorem Store.Ok.replaced {st after : Store} (h : st.Ok) {k : SlotId} {r : PageRec} (hp : after.pages = (st.setPage k r).pages)
    (hfit : st.Fits k r) (hnodup : after.list.Nodup)
    (hlisted : ∀ j, j ∈ after.list ↔ if j = k then r.isStored = true else j ∈ st.list) (hlast : after.lastSerial ≤ 65535) :
    after.Ok := by
  have hpage : ∀ j, after.page j = if j = k then r else st.page j := fun j => by
    rw [← Store.page_setPage]
    simp only [Store.page, hp]
  refine ⟨fun i j n hi hj => ?_, fun j n hj => ?_, hnodup, fun j => ?_, hlast⟩
  · rw [hpage] at hi hj
    split at hi <;> split at hj
    · next hik hjk => rw [hik, hjk]
    · next hik hjk => exact absurd hj ((hfit n hi).2 j hjk)
    · next hik hjk => exact absurd hi ((hfit n hj).2 i hik)
    · exact h.distinct i j n hi hj
  · rw [hpage] at hj
    split at hj
    · exact (hfit n hj).1
    · exact h.range j n hj
  · rw [hpage, hlisted]
    split
    · exact Iff.rfl
    · exact h.listed j

/-- A record replaced by one that is STORED if it was leaves the store list. -/
theorem Store.Ok.setPage {st after : Store} (h : st.Ok) {k : SlotId} {r : PageRec} (hp : after.pages = (st.setPage k r).pages)
    (hl : after.list = st.list) (hfit : st.Fits k r) (hsame : r.isStored = (st.page k).isStored)
    (hlast : after.lastSerial ≤ 65535) : after.Ok := by
  refine h.replaced hp hfit (hl ▸ h.nodup) (fun j => ?_) hlast
  rw [hl]
  split
  · next hj => rw [hj, hsame]; exact h.listed k
  · exact Iff.rfl

/-- A page taken out of the store list is STORED no more (R123, R134). -/
theorem Store.Ok.unlisted {st : Store} (h : st.Ok) {k : SlotId} {r : PageRec} (hfit : st.Fits k r) (hr : r.isStored = false) :
    ((st.setPage k r).unlisted k).Ok := by
  refine h.replaced rfl hfit (h.nodup.filter _) (fun j => ?_) h.last
  have hmem : j ∈ ((st.setPage k r).unlisted k).list ↔ j ∈ st.list ∧ j ≠ k := by
    simp [Store.unlisted, Store.setPage]
  rw [hmem]
  split
  · next hj => simp [hj, hr]
  · next hj => exact and_iff_left hj

/-- A page stored in a slot that holds none joins the end of the store list (R123, R125). -/
theorem Store.Ok.stored {st : Store} (h : st.Ok) {k : SlotId} {tag : PageTag} (d : PageData) (hfit : st.Fits k (.stored tag d))
    (hk : (st.page k).isStored = false) : (st.stored k tag d).Ok := by
  have hnot : k ∉ st.list := by simp [h.listed, hk]
  refine h.replaced rfl hfit (h.nodup.append (List.nodup_singleton k) (by simpa using hnot)) (fun j => ?_) h.last
  have hmem : j ∈ (st.stored k tag d).list ↔ j ∈ st.list ∨ j = k := by simp [Store.stored, Store.setPage]
  rw [hmem]
  split
  · next hj => simp [hj, PageRec.isStored]
  · next hj => exact or_iff_left hj

theorem Store.Ok.withLast {st : Store} (h : st.Ok) {n : Nat} (hn : n ≤ 65535) : Store.Ok { st with lastSerial := n } :=
  { h with last := hn }

theorem Store.Ok.withReports {st : Store} (h : st.Ok) (rs : List StoreReport) : Store.Ok { st with reports := rs } := { h with }

theorem Store.Ok.reset : Store.reset.Ok := by
  have hempty : ∀ k, Store.reset.page k = .empty := by decide
  refine ⟨fun j k n hj => ?_, fun k n hk => ?_, List.nodup_nil, fun k => ?_, Nat.zero_le _⟩
  · rw [hempty] at hj; cases hj
  · rw [hempty] at hk; cases hk
  · rw [hempty]; simp [Store.reset, PageRec.isStored]

/-! ### What an operation keeps -/

/-- The page table is consistent in `t` if it is in `s`. -/
def State.KeepsTable (s t : State) : Prop := s.store.Ok → t.store.Ok

theorem State.KeepsTable.refl (s : State) : s.KeepsTable s := id

theorem State.KeepsTable.trans {s t u : State} (h : s.KeepsTable t) (k : t.KeepsTable u) : s.KeepsTable u := fun hs => k (h hs)

/-- An operation that leaves the page store keeps the table. -/
theorem State.KeepsTable.of_same {s t : State} (h : t.store = s.store) : s.KeepsTable t := fun hs => h ▸ hs

theorem State.KeepsTable.before {s t u : State} (h : s.KeepsTable t) (hu : u.store = t.store) : s.KeepsTable u := h.trans (.of_same hu)

theorem State.KeepsTable.after {s t u : State} (h : t.KeepsTable u) (ht : t.store = s.store) : s.KeepsTable u :=
  (State.KeepsTable.of_same ht).trans h

theorem State.keepsTable_foldl {α : Type} (f : State → α → State) (h : ∀ s a, State.KeepsTable s (f s a)) (l : List α)
    (s : State) : s.KeepsTable (l.foldl f s) := by
  induction l generalizing s with
  | nil => exact .refl s
  | cons a l ih => exact (h s a).trans (ih _)

/-- A command that does something on an occasion only. -/
theorem State.keepsTable_ite {s t u : State} {c : Prop} [Decidable c]
    (h : (.next (if c then t else s) : Host.Outcome State Fault Refusal) = .next u) (ht : s.KeepsTable t) : s.KeepsTable u := by
  cases h
  split
  · exact ht
  · exact .refl s

/-! ### Pins and the page channels (R135, R139) -/

/-- A page freed with its last pin was DISCARDING, and so not STORED (R135). -/
theorem State.keepsTable_pinsGone (s : State) (b : BufId) : s.KeepsTable (s.pinsGone b) := by
  unfold State.pinsGone
  split
  · next k n p hk =>
    obtain ⟨tag, data, hp, -, -⟩ := Store.discardingOf_some hk
    intro h
    exact h.setPage rfl rfl (s.store.fits_empty k) (by rw [hp]; rfl) h.last
  · exact .refl s

theorem State.keepsTable_unpin (s : State) (b : BufId) : s.KeepsTable (s.unpin b) := by
  unfold State.unpin
  dsimp only
  split
  · exact .after (State.keepsTable_pinsGone _ b) rfl
  · exact .of_same rfl

theorem State.keepsTable_unpin? (s : State) (o : Option BufId) : s.KeepsTable (s.unpin? o) := by
  cases o with
  | none => exact .refl s
  | some b => exact s.keepsTable_unpin b

theorem State.keepsTable_setChan_unpin (s : State) (c : Channel) (x : Chan) (b : BufId) : s.KeepsTable ((s.setChan c x).unpin b) :=
  .after (State.keepsTable_unpin _ b) rfl

theorem State.keepsTable_haltChannel (s : State) (c : Channel) : s.KeepsTable (s.haltChannel c) := by
  unfold State.haltChannel
  split
  · exact s.keepsTable_setChan_unpin c _ _
  · exact .refl s

theorem State.keepsTable_halt (s : State) (cause : HaltCause) : s.KeepsTable (s.halt cause) := by
  unfold State.halt
  split
  · exact .refl s
  · unfold State.haltNow
    have hchannels := fun u : State => (u.keepsTable_haltChannel .ex0).trans (State.keepsTable_haltChannel _ .ex1)
    have hdown := hchannels (s.withLink { s.link with state := .halted cause, halts := saturate16 s.link.halts, owed := [] })
    exact (State.KeepsTable.after (s := s) hdown rfl).before rfl

/-- The exported flag leaves a page STORED with its serial (R139). -/
theorem Store.Ok.markExported {st : Store} (h : st.Ok) (k : SlotId) (n : Nat) : (st.markExported k n).Ok := by
  unfold Store.markExported
  split
  · next tag d hk =>
    have hp : st.page k = .stored tag d := by
      unfold Store.storedWith at hk
      split at hk
      · next hp => split at hk <;> cases hk; exact hp
      · cases hk
    exact h.setPage rfl rfl (h.fits_same (by rw [hp]; rfl)) (by rw [hp]; rfl) h.last
  · exact h

theorem State.keepsTable_channelDone (s : State) (c : Channel) (d : ChanData) : s.KeepsTable (s.channelDone c d) := by
  have hdone : ∀ m : State, m.KeepsTable (((m.setChan c (.used .done { d with sent := d.sent + 1 })).unpin d.buffer).postAll
      (.exportDone c d.slot d.serial d.scope d.total d.requester) none) :=
    fun m => (m.keepsTable_setChan_unpin c _ d.buffer).before rfl
  unfold State.channelDone
  dsimp only
  split
  · exact State.KeepsTable.trans (t := s.withStore _) (fun h => h.markExported _ _) (hdone _)
  · exact hdone s

theorem State.keepsTable_pageDelivered (s : State) (c : Channel) : s.KeepsTable (s.pageDelivered c) := by
  unfold State.pageDelivered
  split
  · split
    · exact s.keepsTable_channelDone c _
    · exact .of_same rfl
  · split
    · exact s.keepsTable_channelDone c _
    · exact s.keepsTable_setChan_unpin c _ _
  · exact .refl s

theorem State.keepsTable_lastByte (s : State) : s.KeepsTable s.lastByte := by
  unfold State.lastByte
  split
  · unfold State.delivered
    split
    · exact .after (State.keepsTable_pageDelivered _ _) rfl
    · exact .of_same (by simp)
  · exact .refl s

theorem State.keepsTable_clockTransfer (s : State) (n : Nat) : s.KeepsTable (s.clockTransfer n) := by
  unfold State.clockTransfer
  split
  · split
    · exact .refl s
    · split
      · exact s.keepsTable_lastByte
      · exact .of_same rfl
  · exact .of_same rfl
  · exact .refl s

theorem State.keepsTable_closeTransfer (s : State) : s.KeepsTable s.closeTransfer := by
  unfold State.closeTransfer
  dsimp only
  split
  · exact .after (State.keepsTable_halt _ _) rfl
  · exact .of_same rfl

theorem State.keepsTable_linkTick (s : State) : s.KeepsTable s.linkTick := by
  unfold State.linkTick
  split
  · dsimp only
    split
    · exact .after (State.keepsTable_halt _ _) rfl
    · exact .of_same rfl
  · exact .refl s

theorem State.keepsTable_exportStop (s : State) (q : Request) : s.KeepsTable (s.exportStop q).state := by
  unfold State.exportStop
  split
  · exact .refl s
  · next c _ =>
    unfold State.stopChannel
    split
    · split
      · exact .of_same rfl
      · exact s.keepsTable_setChan_unpin c _ _
    all_goals exact .refl s

/-! ### The projector feed, the intake unit and the motion meter -/

/-- The releases at a frame begin are the only part of it that reaches the page store (R90). -/
theorem State.keepsTable_commitAndBegin (s : State) : s.KeepsTable s.commitAndBegin := by
  have hpins := (s.commit.keepsTable_unpin? s.commit.feed.first.pin).trans (State.keepsTable_unpin? _ s.commit.feed.second.pin)
  have hrelease : s.commit.KeepsTable s.commit.releaseFeed := hpins.before rfl
  exact (State.KeepsTable.after hrelease (by simp)).before (by simp [State.commitAndBegin, State.frameBegin])

/-- A reservation that fails leaves an EMPTY record (R129). -/
theorem State.keepsTable_failReservation (s : State) (k : SlotId) : s.KeepsTable (s.failReservation k) := by
  unfold State.failReservation
  split
  · next tag after hk =>
    intro h
    exact h.setPage rfl rfl (s.store.fits_empty k) (by rw [hk]; rfl) h.last
  · exact .refl s

theorem State.keepsTable_stall (s : State) : s.KeepsTable s.stall :=
  .after (State.keepsTable_foldl _ State.keepsTable_failReservation _ _) rfl

theorem State.keepsTable_countOutputFrame (s : State) : s.KeepsTable s.countOutputFrame := by
  unfold State.countOutputFrame
  dsimp only
  split
  · exact .after (State.keepsTable_stall _) rfl
  · exact .of_same rfl

theorem State.keepsTable_motionReport (s : State) : s.KeepsTable s.motionReport := by
  unfold State.motionReport
  split
  · exact .refl s
  · exact fun h => h.withReports _

/-! ### Captures (R124–R131) -/

/-- A page stored in a slot that holds none, with a serial that fits. -/
theorem State.keepsTable_storing (s : State) {k : SlotId} {tag : PageTag} (b : BufId) (info : FrameMeta) (leftOut : Option Port)
    (hk : (s.store.page k).isStored = false) (hfit : s.store.Ok → s.store.Fits k (.stored tag (s.pageData b info))) :
    s.KeepsTable (s.storing k tag b info leftOut).state :=
  fun h => h.stored _ (hfit h) hk

/-- A page stored with the serial drawn next in an EMPTY record (R122, R124). -/
theorem State.keepsTable_storing_drawn (s : State) {k : SlotId} {tag : PageTag} (b : BufId) (info : FrameMeta) (pool : Pool)
    (leftOut : Option Port) (hk : s.store.lowestEmpty = some k) (ht : tag.serial = s.store.nextSerial) :
    s.KeepsTable ((((s.withPool pool).drawn s.store.nextSerial).storing k tag b info leftOut).state) := by
  have hdrawn : s.KeepsTable ((s.withPool pool).drawn s.store.nextSerial) := fun h => h.withLast s.store.nextSerial_range.2
  have hfit : s.store.Fits k (.stored tag (((s.withPool pool).drawn s.store.nextSerial).pageData b info)) :=
    s.store.fits_drawn k (congrArg some ht)
  exact hdrawn.trans (State.keepsTable_storing _ b info leftOut (Store.lowestEmpty_unstored hk) fun _ => hfit)

theorem State.keepsTable_capturingTimed (s : State) : s.KeepsTable s.capturingTimed.state := by
  unfold State.capturingTimed
  split
  · exact .of_same rfl
  · next k hk =>
    split
    · exact s.keepsTable_storing_drawn _ _ _ none hk rfl
    · exact .of_same rfl
    · exact .of_same rfl

theorem State.keepsTable_capturingTurn (s : State) (r : Report) : s.KeepsTable (s.capturingTurn r).state := by
  unfold State.capturingTurn
  split
  · exact .of_same rfl
  · split
    · exact .of_same rfl
    · next k hk =>
      split
      · exact s.keepsTable_storing_drawn _ _ _ none hk rfl
      · exact .of_same rfl
      · exact .of_same rfl

theorem State.keepsTable_pageTurn (s : State) (r : Report) : s.KeepsTable (s.pageTurn r) :=
  (s.keepsTable_capturingTurn r).before (by simp [State.pageTurn])

/-- A reservation that is filled keeps its serial (R128). -/
theorem State.keepsTable_fill (s : State) (r : Report) (k : SlotId) : s.KeepsTable (s.fill r k) := by
  unfold State.fill
  split
  · next tag after hk =>
    split
    · split
      · next b info pool _ =>
        have hstore := (s.withPool pool).keepsTable_storing (k := k) (tag := tag) b info none
          (by rw [State.store_withPool, hk]; rfl) fun h => h.fits_same (by rw [State.store_withPool, hk]; rfl)
        exact hstore.before rfl
      · exact .refl s
    · exact .refl s
  · exact .refl s

theorem State.keepsTable_storeNextReport (s : State) : s.KeepsTable s.storeNextReport := by
  unfold State.storeNextReport
  split
  · exact .refl s
  · next r rest _ =>
    have htaken : s.KeepsTable (s.withStore { s.store with reports := rest }) := fun h => h.withReports rest
    have hfill : ∀ u : State, u.KeepsTable (u.fillAll r.report) := fun u =>
      State.keepsTable_foldl _ (fun t k => t.keepsTable_fill r.report k) _ u
    refine htaken.trans ?_
    unfold State.storeReport
    dsimp only
    split
    · exact (hfill _).trans (State.keepsTable_pageTurn _ r.report)
    · exact hfill _

theorem State.keepsTable_capture (s : State) (p : Port) (q : Request) : s.KeepsTable (s.capture p q).state := by
  unfold State.capture
  dsimp only
  split
  · exact .refl s
  · split
    · exact .refl s
    · split
      · exact .refl s
      · next k hk =>
        split
        · unfold State.captureNow
          split
          · exact (s.keepsTable_storing_drawn _ _ _ (some p) hk rfl).before rfl
          · exact .refl s
          · exact .refl s
        · intro h
          exact h.setPage rfl rfl (s.store.fits_drawn k rfl) (Store.lowestEmpty_unstored hk).symm s.store.nextSerial_range.2

/-! ### DISCARD and LABEL (R134, R136) -/

theorem State.keepsTable_discardStored (s : State) (p : Port) {k : SlotId} {tag : PageTag} {d : PageData}
    (hk : s.store.page k = .stored tag d) : s.KeepsTable (s.discardStored p k tag d).state := by
  unfold State.discardStored
  split
  · exact .refl s
  · split
    · exact fun h => h.unlisted (r := .discarding tag d p) (h.fits_same (by rw [hk]; rfl)) rfl
    · exact fun h => h.unlisted (r := .empty) (s.store.fits_empty k) rfl

theorem State.keepsTable_discard (s : State) (p : Port) (q : Request) : s.KeepsTable (s.discard p q).state := by
  unfold State.discard
  split
  · exact .refl s
  · next k _ =>
    split
    · next tag after hk =>
      split
      · intro h
        exact h.setPage rfl rfl (s.store.fits_empty k) (by rw [hk]; rfl) h.last
      · exact .refl s
    · next tag d hk =>
      split
      · exact s.keepsTable_discardStored p hk
      · exact .refl s
    · exact .refl s

/-- A label leaves the record its state and its serial (R136). -/
theorem State.keepsTable_setLabel (s : State) (q : Request) : s.KeepsTable (s.setLabel q).state := by
  unfold State.setLabel
  dsimp only
  split
  · exact .refl s
  · split
    · exact .refl s
    · split
      · next hk =>
        split
        · intro h
          exact h.setPage rfl rfl (h.fits_same (by rw [hk]; rfl)) (by rw [hk]; rfl) h.last
        · exact .refl s
      · next hk =>
        split
        · intro h
          exact h.setPage rfl rfl (h.fits_same (by rw [hk]; rfl)) (by rw [hk]; rfl) h.last
        · exact .refl s
      · exact .refl s

/-! ### The lesson clock (R130) -/

theorem State.keepsTable_lessonSecond (s : State) (o : Option Port) : s.KeepsTable (s.lessonSecond o) := by
  unfold State.lessonSecond
  split
  · exact .refl s
  · split
    · have hcaptured := (s.withLesson { s.lesson with timed := 0 }).keepsTable_capturingTimed
      exact (State.KeepsTable.after hcaptured rfl).before (by simp [State.timedCapture, Doing.entered])
    · exact .of_same rfl

theorem State.keepsTable_clockTick (s : State) (o : Option Port) : s.KeepsTable (s.clockTick o) := by
  unfold State.clockTick
  dsimp only
  split
  · exact .after (State.keepsTable_lessonSecond _ o) rfl
  · exact .of_same rfl

end Sys2Proof.Machine

/-! SUPPORT. The page table kept: the operations that leave the page store, every command and every step. -/
namespace Sys2Proof.Machine

open Sys2Proof.Statements

/-! ### Carrying out a request -/

theorem State.keepsTable_serve (s : State) (p : Port) (meant : Request → Bool) (body : Request → State → Answer)
    (h : ∀ q, s.KeepsTable (body q s).state) : s.KeepsTable (s.serve p meant body) := by
  unfold State.serve
  split
  · exact .refl s
  · split
    · split
      · exact (h _).before rfl
      · exact .of_same rfl
    · exact .refl s

theorem keepsTable_serveOpen {code : Nat} {p : Port} {body : Request → State → Answer} {s t : State}
    (ht : serveOpen code p body s = .next t) (h : ∀ q, s.KeepsTable (body q s).state) : s.KeepsTable t := by
  cases ht
  exact s.keepsTable_serve p _ body h

theorem State.store_passTenancy {s t : State} {p : Port} (h : s.passTenancy p = some t) : t.store = s.store := by
  unfold State.passTenancy at h
  split at h
  · cases h; rfl
  · split at h <;> cases h
    rfl

/-- No gated request reaches the page store (R104). -/
theorem keepsTable_serveGated {code : Nat} {p : Port} {body : Request → State → Answer} {s t : State}
    (ht : serveGated code p body s = .next t) (h : ∀ q (u : State), (body q u).state.store = u.store) : s.KeepsTable t := by
  cases ht
  refine s.keepsTable_serve p _ _ fun q => ?_
  unfold State.gated
  split
  · exact .refl s
  · next u hu => exact .of_same (by simp [h, State.store_passTenancy hu])

/-! ### Requests that leave the page store -/

theorem State.store_claim (s : State) (p : Port) (q : Request) : (s.claim p q).state.store = s.store := by
  have hanswer : ∀ (u : State) (st : Status), (u.claimAnswer p st).state = u := fun _ _ => rfl
  unfold State.claim
  split
  · rfl
  · dsimp only
    split
    · simp [hanswer]
    · split
      · simp [hanswer]
      · split
        · simp [hanswer]
        · split
          · simp [hanswer]
          · rfl

theorem State.store_release (s : State) (p : Port) : (s.release p).state.store = s.store := by
  simp only [State.release, Answer.ok]
  split
  · simp
  · rfl

theorem State.store_setSource (s : State) (p : Port) (q : Request) : (s.setSource p q).state.store = s.store := by
  unfold State.setSource State.sourcePage
  split
  · rfl
  · rfl
  all_goals
    split
    · rfl
    · split <;> rfl

theorem State.store_freeze (s : State) (p : Port) : (s.freeze p).state.store = s.store := by
  unfold State.freeze
  split
  · rfl
  · split <;> rfl

theorem State.store_unfreeze (s : State) (p : Port) : (s.unfreeze p).state.store = s.store := by
  unfold State.unfreeze
  split <;> simp [Answer.ok]

theorem State.store_setExposure (s : State) (q : Request) : (s.setExposure q).state.store = s.store := by
  unfold State.setExposure
  split <;> rfl

theorem State.store_setLamp (s : State) (q : Request) : (s.setLamp q).state.store = s.store := by
  unfold State.setLamp
  split
  · rfl
  · dsimp only
    split <;> rfl

theorem State.store_setClarity (s : State) (q : Request) : (s.setClarity q).state.store = s.store := by
  unfold State.setClarity
  split <;> rfl

theorem State.store_setOutputMode (s : State) (q : Request) : (s.setOutputMode q).state.store = s.store := by
  unfold State.setOutputMode
  split
  · rfl
  · split
    · rfl
    · split <;> rfl

theorem State.store_setParam (s : State) (p : Port) (q : Request) : (s.setParam p q).state.store = s.store := by
  unfold State.setParam
  dsimp only
  split
  · split <;> rfl
  · split
    · simp [Answer.ok]
    · rfl

theorem State.store_exportPage (s : State) (p : Port) (q : Request) : (s.exportPage p q).state.store = s.store := by
  unfold State.exportPage State.startExport
  split
  · split
    · rfl
    · split
      · rfl
      · split <;> rfl
  · rfl

theorem State.store_exportContinue (s : State) (q : Request) : (s.exportContinue q).state.store = s.store := by
  unfold State.exportContinue State.continueChannel
  split
  · rfl
  · split
    · split <;> rfl
    · split <;> rfl
    · rfl

theorem State.store_exportResume (s : State) : s.exportResume.state.store = s.store := by
  unfold State.exportResume
  split
  · split <;> rfl
  · rfl

theorem State.store_lessonStart (s : State) (p : Port) : (s.lessonStart p).state.store = s.store := by
  unfold State.lessonStart
  split <;> rfl

theorem State.store_lessonResume (s : State) (p : Port) : (s.lessonResume p).state.store = s.store := by
  unfold State.lessonResume
  split <;> rfl

theorem State.store_lessonEnd (s : State) (p : Port) : (s.lessonEnd p).state.store = s.store := by
  unfold State.lessonEnd
  split <;> rfl

theorem State.store_lessonClear (s : State) : s.lessonClear.state.store = s.store := by
  unfold State.lessonClear
  split <;> rfl

/-! ### Events of the links that leave the page store -/

theorem State.store_writeLine {s t : State} {y : Nat} {bytes : List Byte} {after : Intake} (h : s.writeLine y bytes after = .next t) :
    t.store = s.store := by
  unfold State.writeLine at h
  split at h
  · cases h; rfl
  · split at h <;> cases h
    rfl

theorem State.store_sensorLineEnd {s t : State} (h : execSensorLineEnd s = .next t) : t.store = s.store := by
  unfold execSensorLineEnd at h
  split at h
  · cases h; rfl
  · split at h
    · split at h
      · cases h; rfl
      · exact State.store_writeLine h
    · cases h; rfl

theorem State.store_sensorFrameEnd {s t : State} (h : execSensorFrameEnd s = .next t) : t.store = s.store := by
  unfold execSensorFrameEnd at h
  split at h
  · cases h; rfl
  · split at h
    · exact State.store_writeLine h
    · cases h; rfl

theorem State.store_sendPage {s t : State} {c : Channel} {d : ChanData} (h : s.sendPage c d = .next t) : t.store = s.store := by
  unfold State.sendPage at h
  dsimp only at h
  split at h
  · cases h; rfl
  · split at h <;> cases h
    rfl

theorem State.store_openTransfer {s t : State} (h : s.openTransfer = .next t) : t.store = s.store := by
  unfold State.openTransfer State.pullReady at h
  split at h
  · split at h
    · cases h; rfl
    · split at h
      · cases h; rfl
      · split at h
        · exact State.store_sendPage h
        · cases h; rfl
  · cases h; rfl
  · cases h; rfl

/-! ### Every command -/

/-- Every command that answers a next state keeps the page table. -/
theorem exec_keepsTable {i : Instr} {s t : State} (h : exec i s = .next t) : s.KeepsTable t := by
  cases i with
  | partReset sense panel desk recorder => cases h; exact fun _ => .reset
  | requestWrite p part | fetch p part | presenceRestored p => cases h; exact .of_same rfl
  | unknownRequestCode p =>
    cases h
    split
    · exact .refl s
    · split
      · exact .refl s
      · exact .of_same rfl
  | presenceLost p =>
    refine State.keepsTable_ite h ?_
    have hreset : s.KeepsTable ((s.setPort p { s.port p with present := false, write := none }).portReset p none) := .of_same (by simp)
    unfold State.lose
    dsimp only
    split
    · exact hreset.trans (State.keepsTable_halt _ _)
    · exact hreset
  | partRead p part =>
    cases part with
    | ask block => cases h; exact .of_same (by simp)
    | rest => exact keepsTable_serveOpen h fun _ => .of_same rfl
  | setParam p => exact keepsTable_serveOpen h fun q => .of_same (s.store_setParam p q)
  | getParam p => exact keepsTable_serveOpen h fun q => .of_same (by rw [State.getParam_state])
  | portReset p => exact keepsTable_serveOpen h fun _ => .of_same (by simp [State.resetOwn, Answer.ok])
  | claimView p => exact keepsTable_serveOpen h fun q => .of_same (s.store_claim p q)
  | releaseView p => exact keepsTable_serveOpen h fun _ => .of_same (s.store_release p)
  | withdrawClaim p => exact keepsTable_serveOpen h fun _ => .of_same rfl
  | tenancyRead p | viewRead p | pictureRead p | feedRead p | lessonRead p | exportRead p =>
    exact keepsTable_serveOpen h fun _ => .refl s
  | idleYield => exact State.keepsTable_ite h (.of_same (by simp))
  | zoomTo p | zoomBy p | panTo p | panBy p | blank p | unblank p => exact keepsTable_serveGated h fun _ _ => rfl
  | setSource p => exact keepsTable_serveGated h fun q u => u.store_setSource p q
  | freeze p => exact keepsTable_serveGated h fun _ u => u.store_freeze p
  | unfreeze p => exact keepsTable_serveGated h fun _ u => u.store_unfreeze p
  | setClarity p => exact keepsTable_serveGated h fun q u => u.store_setClarity q
  | setExposure p => exact keepsTable_serveGated h fun q u => u.store_setExposure q
  | setLamp p => exact keepsTable_serveGated h fun q u => u.store_setLamp q
  | setOutputMode p => exact keepsTable_serveGated h fun q u => u.store_setOutputMode q
  | captureNow p | captureNext p => cases h; exact s.keepsTable_serve p _ _ fun q => s.keepsTable_capture p q
  | discard p => exact keepsTable_serveOpen h fun q => s.keepsTable_discard p q
  | label p => exact keepsTable_serveOpen h fun q => s.keepsTable_setLabel q
  | pageRead p => exact keepsTable_serveOpen h fun q => .of_same (by rw [State.pageRead_state])
  | thumbRead p => exact keepsTable_serveOpen h fun q => .of_same (by rw [State.thumbRead_state])
  | lessonStart p => exact keepsTable_serveOpen h fun _ => .of_same (s.store_lessonStart p)
  | lessonPause p => cases h; exact .of_same (by simp)
  | lessonResume p => exact keepsTable_serveOpen h fun _ => .of_same (s.store_lessonResume p)
  | lessonEnd p => exact keepsTable_serveOpen h fun _ => .of_same (s.store_lessonEnd p)
  | lessonClear p => exact keepsTable_serveOpen h fun _ => .of_same s.store_lessonClear
  | exportPage p => exact keepsTable_serveOpen h fun q => .of_same (s.store_exportPage p q)
  | exportStop p => exact keepsTable_serveOpen h fun q => s.keepsTable_exportStop q
  | exportContinue p => exact keepsTable_serveOpen h fun q => .of_same (s.store_exportContinue q)
  | exportResume p => exact keepsTable_serveOpen h fun _ => .of_same s.store_exportResume
  | sensorFrameStart elapsed => cases h; exact .of_same (by simp)
  | sensorLineStart | sensorPixelPair pair =>
    cases h
    split
    · exact .refl s
    · exact .of_same rfl
  | sensorLineEnd => exact .of_same (State.store_sensorLineEnd h)
  | sensorFrameEnd => exact .of_same (State.store_sensorFrameEnd h)
  | frameCompletion =>
    cases h
    split
    · exact .of_same (by simp)
    · exact .refl s
  | intakeWriteFault buffer => exact State.keepsTable_ite h (.of_same rfl)
  | stallEvent => exact State.keepsTable_ite h s.keepsTable_countOutputFrame
  | lightFrameReport => cases h; exact .of_same (by simp)
  | autoLampStep => exact State.keepsTable_ite h (.of_same (by simp))
  | motionFrameReport => cases h; exact s.keepsTable_motionReport
  | detectorFire => exact State.keepsTable_ite h s.keepsTable_motionReport
  | pageStoreFrameReport => cases h; exact s.keepsTable_storeNextReport
  | outputFrameStart => cases h; exact s.keepsTable_commitAndBegin.trans (State.keepsTable_countOutputFrame _)
  | feedStarted => exact State.keepsTable_ite h s.keepsTable_commitAndBegin
  | sensePresent =>
    cases h
    split
    · exact .refl s
    · exact .of_same rfl
  | senseAbsent => exact State.keepsTable_ite h (.of_same rfl)
  | feedReadFault area buffer line pair =>
    cases h
    split
    · split
      · exact .of_same (by simp)
      · exact .refl s
    · exact .refl s
  | millisecondTick pause =>
    cases h
    have htick : s.KeepsTable (s.tenancyTick.clockTick pause).timelineTick :=
      (State.KeepsTable.after (State.keepsTable_clockTick s.tenancyTick pause) (by simp)).before rfl
    exact htick.trans (State.keepsTable_linkTick _)
  | clockCentisecond pause => exact State.keepsTable_ite h (s.keepsTable_clockTick pause)
  | timedCaptureExpiry pause => exact State.keepsTable_ite h (s.keepsTable_lessonSecond pause)
  | lampPulseStart => cases h; exact .of_same rfl
  | lampOnTimeEnd => exact State.keepsTable_ite h (.of_same rfl)
  | exportPull part =>
    cases part with
    | opening => exact .of_same (State.store_openTransfer h)
    | clock count => cases h; exact s.keepsTable_clockTransfer count
    | closing => cases h; exact s.keepsTable_closeTransfer
  | exportDeliveryCompleted => cases h; exact s.keepsTable_lastByte
  | exportDeliveryTimeout => exact State.keepsTable_ite h s.keepsTable_linkTick
  | exportLinkError => cases h; exact s.keepsTable_halt _
  | exportMemoryFault channel buffer => exact State.keepsTable_ite h (s.keepsTable_halt _)

/-- Every step of the part keeps the page table. -/
theorem step_keepsTable {s t : State} (h : step s = .next t) : s.KeepsTable t := by
  unfold step at h
  split at h
  · cases h; exact .of_same (by simp)
  · exact .after (exec_keepsTable h) rfl

/-- Settles O10: a page is stored or reserved in a slot that holds none, with a serial no record holds or its reservation's own, and
a page that leaves STORED leaves the store list. -/
theorem pageTableStaysConsistent : Obligations.PageTableStaysConsistent :=
  fun s t hs h => t.storeOk_iff.2 (step_keepsTable h (s.storeOk_iff.1 hs))

end Sys2Proof.Machine

/-! SUPPORT. Channel requests: the channel argument, and what EXPORT_STOP, EXPORT_CONTINUE and EXPORT_RESUME answer for a channel and a
link in each state. -/
namespace Sys2Proof.Statements

open Sys2Proof.Machine

/-! ### The channel (R168, R192) -/

theorem channelOfCode_none {ch : Byte} (h : 1 < ch) : channelOfCode ch.toNat = none := by
  have hn : 1 < ch.toNat := by simpa [BitVec.lt_def] using h
  obtain ⟨i, hi⟩ := Nat.exists_eq_add_of_le' hn
  rw [hi]
  rfl

theorem channelOfCode_some {ch : Byte} {c : Channel} (h : (ch = 0 ∧ c = .ex0) ∨ (ch = 1 ∧ c = .ex1)) :
    channelOfCode ch.toNat = some c := by
  rcases h with ⟨rfl, rfl⟩ | ⟨rfl, rfl⟩ <;> rfl

@[simp] theorem chan_setChan (s : State) (c : Channel) (x : Chan) : (s.setChan c x).link.chan c = x := by
  cases c <;> rfl

/-! ### EXPORT_STOP (R173) -/

section
variable {s : State} {c : Channel} {d : ChanData}

/-- What EXPORT_STOP reports of a channel. -/
theorem stopAnswer_eq {x : Chan} (h : s.link.chan c = x) :
    s.stopAnswer c = .ok s ([byte1 x.stateCode] ++ be32 x.sent) := by
  subst h
  rfl

theorem inFlight_iff (l : Link) (c : Channel) : l.inFlight c = true ↔ ∃ b, l.state = .delivering b ∧ b.channel = some c := by
  unfold Link.inFlight LinkState.block?
  cases l.state <;> simp

theorem stopChannel_idleLink (h : s.link.chan c = .used .active d) (hb : ∀ b, s.link.state = .delivering b → b.channel ≠ some c) :
    s.stopChannel c = .ok ((s.setChan c (.used .stopped d)).unpin d.buffer)
      ([byte1 (Chan.used .stopped d).stateCode] ++ be32 d.sent) := by
  have hflight : ¬ s.link.inFlight c = true := fun hf => by
    obtain ⟨b, hs, hc⟩ := (inFlight_iff _ _).1 hf
    exact hb b hs hc
  have hafter : ((s.setChan c (.used .stopped d)).unpin d.buffer).link.chan c = .used .stopped d := by simp
  simp only [State.stopChannel, h, if_neg hflight, stopAnswer_eq hafter]
  rfl

theorem stopChannel_inFlight (h : s.link.chan c = .used .active d) {b : Block} (hs : s.link.state = .delivering b)
    (hb : b.channel = some c) : s.stopChannel c = .ok (s.setChan c (.used .stopping d))
      ([byte1 (Chan.used .stopping d).stateCode] ++ be32 d.sent) := by
  have hflight : s.link.inFlight c = true := (inFlight_iff _ _).2 ⟨b, hs, hb⟩
  simp only [State.stopChannel, h, if_pos hflight, stopAnswer_eq (chan_setChan s c _)]
  rfl

theorem stopChannel_kept {phase : Phase} (h : s.link.chan c = .used phase d)
    (hphase : phase = .stopping ∨ phase = .stopped ∨ phase = .halted) :
    s.stopChannel c = .ok s ([byte1 (Chan.used phase d).stateCode] ++ be32 d.sent) := by
  rw [← show (Chan.used phase d).sent = d.sent from rfl, ← stopAnswer_eq h]
  rcases hphase with rfl | rfl | rfl <;> simp only [State.stopChannel, h]

theorem stopChannel_wrongState (h : s.link.chan c = .idle ∨ ∃ d, s.link.chan c = .used .done d) :
    s.stopChannel c = .plain s .wrongState := by
  rcases h with h | ⟨d, h⟩ <;> simp only [State.stopChannel, h]

/-! ### EXPORT_CONTINUE (R174) -/

theorem continueChannel_kept {tag : PageTag} {data : PageData} (hp : s.store.page d.slot = .stored tag data)
    (hserial : tag.serial = d.serial) (hbuffer : data.buffer = d.buffer) :
    s.continueChannel c d = .ok ((s.setChan c (.used .active d)).pin d.buffer)
      ([byte1 (Chan.used .active d).stateCode] ++ be32 d.sent ++ be32 d.total) := by
  have hkept := (s.store.keepsPage_iff d).2 ⟨tag, data, hp, hserial, hbuffer⟩
  have hafter : ((s.setChan c (.used .active d)).pin d.buffer).link.chan c = .used .active d := by simp
  simp only [State.continueChannel, if_pos hkept, Link.continueResults, Link.stopResults, hafter]
  rfl

theorem continueChannel_gone
    (h : ∀ tag data, s.store.page d.slot = .stored tag data → tag.serial ≠ d.serial ∨ data.buffer ≠ d.buffer) :
    s.continueChannel c d = .plain (s.setChan c .idle) .noPage := by
  refine if_neg fun hkept => ?_
  obtain ⟨tag, data, hp, hserial, hbuffer⟩ := (s.store.keepsPage_iff d).1 hkept
  exact (h tag data hp).elim (· hserial) (· hbuffer)

variable {q : Request}

/-- A STOPPED or HALTED channel is continued. -/
theorem exportContinue_channel (hc : channelOfCode (argByte q.args 0) = some c)
    (h : s.link.chan c = .used .stopped d ∨ s.link.chan c = .used .halted d) : s.exportContinue q = s.continueChannel c d := by
  rcases h with h | h <;> simp only [State.exportContinue, hc, h]

theorem exportContinue_wrongState (hc : channelOfCode (argByte q.args 0) = some c)
    (h : ∀ d, s.link.chan c ≠ .used .stopped d ∧ s.link.chan c ≠ .used .halted d) : s.exportContinue q = .plain s .wrongState := by
  simp only [State.exportContinue, hc]
  split
  · next d hd => exact absurd hd (h d).1
  · next d hd => exact absurd hd (h d).2
  · rfl

/-! ### EXPORT_RESUME (R167) -/

theorem exportResume_halted {cause : HaltCause} (h : s.link.state = .halted cause) :
    s.exportResume = if (s.port .recorder).present then
        .ok { s with link := { s.link with state := .ready } } [byte1 (LinkState.code .ready), byte1 cause.code]
      else .plain s .wrongState := by
  simp only [State.exportResume, h]
  rfl

theorem exportResume_other (h : ∀ cause, s.link.state ≠ .halted cause) : s.exportResume = .ok s [byte1 s.link.state.code, 0] := by
  unfold State.exportResume
  split
  · exact absurd ‹_› (h _)
  · rfl

end

/-- Settles O59, request by request: by the channel named, its phase, and the block in flight or the page in its slot; and by the link's
state and the recorder's presence. -/
theorem stopContinueAndResumeKeepTheProgress : Obligations.StopContinueAndResumeKeepTheProgress := by
  refine ⟨fun s p k q ch => ⟨fun hq => ?_, fun hq => ?_⟩, fun s p k q hq => ?_⟩
  · have hexec : ∀ {a : Answer}, s.exportStop q = a → exec (.exportStop p) s = .next (a.state.reply p k q a.status a.results) :=
      serveOpen_answer (fun q s => s.exportStop q) hq rfl rfl
    have harg : argByte q.args 0 = ch.toNat := by rw [hq.args_eq]; rfl
    refine ⟨fun h => hexec (a := .plain s .badArgument) ?_, fun c hch => ?_⟩
    · rw [State.exportStop, harg, channelOfCode_none h]
    have hstop : s.exportStop q = s.stopChannel c := by rw [State.exportStop, harg, channelOfCode_some hch]
    exact ⟨fun d hd => ⟨fun hb => hexec (hstop.trans (stopChannel_idleLink hd hb)),
        fun b hs hb => hexec (hstop.trans (stopChannel_inFlight hd hs hb))⟩,
      fun d phase hd hphase => hexec (hstop.trans (stopChannel_kept hd hphase)),
      fun h => hexec (hstop.trans (stopChannel_wrongState h))⟩
  · have hexec : ∀ {a : Answer}, s.exportContinue q = a →
        exec (.exportContinue p) s = .next (a.state.reply p k q a.status a.results) :=
      serveOpen_answer (fun q s => s.exportContinue q) hq rfl rfl
    have harg : argByte q.args 0 = ch.toNat := by rw [hq.args_eq]; rfl
    refine ⟨fun h => hexec (a := .plain s .badArgument) ?_, fun c hch => ?_⟩
    · rw [State.exportContinue, harg, channelOfCode_none h]
    have hc : channelOfCode (argByte q.args 0) = some c := by rw [harg, channelOfCode_some hch]
    refine ⟨fun h => hexec (exportContinue_wrongState hc h), fun d hd => ⟨fun tag data hp hserial hbuffer => ?_, fun hgone => ?_⟩⟩
    · exact hexec ((exportContinue_channel hc hd).trans (continueChannel_kept hp hserial hbuffer))
    · exact hexec ((exportContinue_channel hc hd).trans (continueChannel_gone hgone))
  · have hexec : ∀ {a : Answer}, s.exportResume = a → exec (.exportResume p) s = .next (a.state.reply p k q a.status a.results) :=
      serveOpen_answer (fun _ s => s.exportResume) hq rfl rfl
    refine ⟨fun cause h => ⟨fun hpresent => ?_, fun habsent => ?_⟩, fun h => hexec (exportResume_other h)⟩
    · exact hexec ((exportResume_halted h).trans (if_pos hpresent))
    · exact hexec ((exportResume_halted h).trans (if_neg (by simp [habsent])))

end Sys2Proof.Statements

/-! SUPPORT. Completed deliveries: a block counted at its page channel, a batch taken out of the timeline, and what the last byte of the
block in flight comes to. -/
namespace Sys2Proof.Statements

open Sys2Proof.Machine

/-! ### The block of a page channel (R139, R168, R172) -/

theorem markExported_stored {st : Store} {k : SlotId} {n : Nat} {tag : PageTag} {data : PageData} (hp : st.page k = .stored tag data)
    (hn : tag.serial = n) : st.markExported k n = st.setPage k (.stored tag { data with exported := true }) := by
  simp [Store.markExported, Store.storedWith, hp, hn]

/-- The exported flag goes to a STORED page of that serial alone (R139). -/
theorem markExported_other {st : Store} {k : SlotId} {n : Nat} (h : ∀ tag data, st.page k = .stored tag data → tag.serial ≠ n) :
    st.markExported k n = st := by
  have hnone : st.storedWith k n = none := by
    unfold Store.storedWith
    split
    · next tag data hp => exact if_neg (h tag data hp)
    · rfl
  simp [Store.markExported, hnone]

/-- The last block of a channel finishes it. -/
theorem channelDone_eq (s : State) (c : Channel) {d : ChanData} (h : d.sent + 1 = d.total) :
    s.channelDone c d = channelFinished s c d := by
  simp only [State.channelDone, channelFinished, h]
  cases hscope : d.scope with
  | window => cases s.store.page d.slot <;> simp
  | full =>
    cases hp : s.store.page d.slot with
    | stored tag data =>
      by_cases hn : tag.serial = d.serial
      · simp [markExported_stored hp hn, hn, State.withStore]
      · have hother := markExported_other (st := s.store) (k := d.slot) (n := d.serial) fun tag' data' hp' => by
          rw [hp] at hp'; cases hp'; exact hn
        simp [hother, hn, State.withStore]
    | _ =>
      rw [markExported_other fun tag data hp' => by rw [hp] at hp'; cases hp']
      rfl

section
variable {s : State} {c : Channel} {d : ChanData}

theorem pageDelivered_active (h : s.link.chan c = .used .active d) (hd : d.sent + 1 < d.total) :
    s.pageDelivered c = s.setChan c (.used .active { d with sent := d.sent + 1 }) := by
  simp only [State.pageDelivered, h, if_neg (Nat.not_le.2 hd)]

theorem pageDelivered_stopping (h : s.link.chan c = .used .stopping d) (hd : d.sent + 1 < d.total) :
    s.pageDelivered c = (s.setChan c (.used .stopped { d with sent := d.sent + 1 })).unpin d.buffer := by
  simp only [State.pageDelivered, h, if_neg (Nat.not_le.2 hd)]

theorem pageDelivered_last (h : s.link.chan c = .used .active d ∨ s.link.chan c = .used .stopping d) (hd : d.sent + 1 = d.total) :
    s.pageDelivered c = channelFinished s c d := by
  rw [← channelDone_eq s c hd]
  rcases h with h | h <;> simp only [State.pageDelivered, h, if_pos hd.ge]

end

/-! ### The batch of the timeline channel (R155, R156, R157) -/

/-- Entries leave with the batch exactly where the rest is shorter. -/
theorem any_sealed_iff (t : Timeline) :
    t.entries.any (fun e => e.isSealed) = true ↔ (t.entries.filter fun e => !e.isSealed).length < t.entries.length := by
  rw [List.length_filter_lt_length_iff_exists, List.any_eq_true]
  simp

/-- A batch leaves room for the GAP entry of what has been lost. -/
theorem delivered_gap {t : Timeline} (time : Nat) {left : List Entry} (hl : left = t.entries.filter fun e => !e.isSealed)
    (hgap : 0 < t.gap) (hsome : left.length < t.entries.length) (hroom : left.length < 256) :
    t.delivered time = { t with
      entries := left ++ [{ seq := t.nextSeq, time := time
                            what := { kind := .gap, port := none, page := none, view := none, extra := t.gap }
                            isSealed := false, arrival := t.ms }]
      nextSeq := t.nextSeq + 1, gap := 0 } := by
  subst hl
  have happend := Timeline.append_room { t with entries := t.entries.filter fun e => !e.isSealed } time (gapOffer t.gap) hroom
  simp only [Timeline.delivered, if_pos (And.intro ((any_sealed_iff t).2 hsome) hgap), happend]
  rfl

/-- Without a loss, or without a batch, only the sealed entries leave. -/
theorem delivered_plain {t : Timeline} (time : Nat) {left : List Entry} (hl : left = t.entries.filter fun e => !e.isSealed)
    (h : t.gap = 0 ∨ left.length = t.entries.length) : t.delivered time = { t with entries := left } := by
  subst hl
  refine if_neg ?_
  rintro ⟨hsome, hgap⟩
  have hlt := (any_sealed_iff t).1 hsome
  omega

section
variable {s : State} {after : Timeline}

/-- A lesson that is not drained stays as it is. -/
theorem timelineDelivered_kept (ht : s.timeline.delivered s.lesson.time = after)
    (h : s.lesson.state ≠ .closing ∨ after.entries ≠ []) : s.timelineDelivered = { s with timeline := after } := by
  subst ht
  exact if_neg fun hdrained => h.elim (· hdrained.1) (· hdrained.2)

/-- A lesson in CLOSING whose last entries have left ends (R157). -/
theorem timelineDelivered_drained (ht : s.timeline.delivered s.lesson.time = after) (hc : s.lesson.state = .closing)
    (hnil : after.entries = []) :
    s.timelineDelivered = ({ s with timeline := after, lesson := { s.lesson with state := .idle } } : State).postAll
      (.lessonState .idle .closing s.lesson.number s.lesson.time .drained) none := by
  subst ht
  refine (if_pos ⟨hc, hnil⟩).trans ?_
  simp only [State.changeLesson, State.lesson_withTimeline, hc]
  rfl

end

/-! ### The last byte (R165) -/

/-- The state in which the block in flight has been driven whole and the link is READY again (R165; log 20). -/
def deliveryEnded (s : State) : State :=
  { s with link := { s.link with state := .ready, owed := [], out := s.link.out ++ s.link.owed } }

@[simp] theorem chan_deliveryEnded (s : State) (c : Channel) : (deliveryEnded s).link.chan c = s.link.chan c := by
  cases c <;> rfl

theorem exec_completed_ignored {s : State} (h : ∀ b, s.link.state ≠ .delivering b) :
    exec .exportDeliveryCompleted s = .next s := by
  refine congrArg Host.Outcome.next ?_
  unfold State.lastByte
  split
  · exact absurd ‹_› (h _)
  · rfl

theorem exec_completed_page {s : State} {b : Block} {c : Channel} (h : s.link.state = .delivering b) (hc : b.channel = some c) :
    exec .exportDeliveryCompleted s = .next ((deliveryEnded s).pageDelivered c) := by
  refine congrArg Host.Outcome.next ?_
  simp only [State.lastByte, h, State.delivered, hc]
  rfl

theorem exec_completed_batch {s : State} {b : Block} (h : s.link.state = .delivering b) (hc : b.channel = none) :
    exec .exportDeliveryCompleted s = .next (deliveryEnded s).timelineDelivered := by
  refine congrArg Host.Outcome.next ?_
  simp only [State.lastByte, h, State.delivered, hc]
  rfl

/-- Settles O56: by the link's state, the block's channel, the channel's phase and the blocks it has left, or by the entries and the
loss of the timeline. -/
theorem completedDeliveryIsCounted : Obligations.CompletedDeliveryIsCounted := by
  intro s t ht
  obtain rfl : t = deliveryEnded s := ht
  refine ⟨exec_completed_ignored, fun b c d hs hc => ⟨fun hd hlt => ?_, fun hd hlt => ?_, fun hd hlast => ?_⟩,
    fun b left after hs hc hleft => ⟨fun hgap hsome hroom hafter => ?_, fun hplain hafter =>
      ⟨fun hkept => ?_, fun hclosing hnil => ?_⟩⟩⟩
  · rw [exec_completed_page hs hc, pageDelivered_active ((chan_deliveryEnded s c).trans hd) hlt]
  · rw [exec_completed_page hs hc, pageDelivered_stopping ((chan_deliveryEnded s c).trans hd) hlt]
  · rw [exec_completed_page hs hc, pageDelivered_last (by simpa using hd) hlast]
  · have hdelivered := (delivered_gap s.lesson.time hleft hgap hsome hroom).trans hafter.symm
    rw [exec_completed_batch hs hc, timelineDelivered_kept (s := deliveryEnded s) hdelivered (.inr (by simp [hafter]))]
  · have hdelivered := (delivered_plain s.lesson.time hleft hplain).trans hafter.symm
    rw [exec_completed_batch hs hc, timelineDelivered_kept (s := deliveryEnded s) hdelivered (by rw [hafter]; exact hkept)]
  · have hdelivered := (delivered_plain s.lesson.time hleft hplain).trans hafter.symm
    rw [exec_completed_batch hs hc, timelineDelivered_drained (s := deliveryEnded s) hdelivered hclosing (by rw [hafter]; exact hnil)]
    rfl

end Sys2Proof.Statements

/-! SUPPORT. Requested and timed captures: what CAPTURE answers, what a timed capture comes to, and the LESSON_PAUSE that can meet it. -/
namespace Sys2Proof.Statements

open Sys2Proof.Machine

/-! ### CAPTURE (R124, R127) -/

section
variable {s : State} {p : Port} {k : Fin 4} {q : Request} {w : Byte} {text : List Byte}

/-- A CAPTURE is answered by the command of its first argument, and by either where that is neither NOW nor NEXT (log 8). -/
theorem exec_capture {a : Answer} {c : Instr} (h : Hands s p k q 0x40 (w :: text)) (hl : text.length ≤ 27)
    (hc : (w = 0 ∧ c = .captureNow p) ∨ (w = 1 ∧ c = .captureNext p) ∨ (1 < w ∧ (c = .captureNow p ∨ c = .captureNext p)))
    (ha : s.capture p q = a) : exec c s = .next (a.state.reply p k q a.status a.results) := by
  subst ha
  obtain ⟨hcur, hcode, hargs⟩ := h
  have hlen : lengthAllowed q = true := by
    simp only [lengthAllowed, hcode, hargs, List.length_cons]
    exact decide_eq_true ⟨by omega, by omega⟩
  have hserve : ∀ meant : Request → Bool, meant q = true → s.serve p meant (fun q s => s.capture p q) =
      (s.capture p q).state.reply p k q (s.capture p q).status (s.capture p q).results :=
    fun meant hm => s.serve_eq p meant _ k q hcur hm hlen
  have hnow : w ≠ 1 → meansNow q = true := fun hw => by simpa [meansNow, Request.hasCode, hcode, hargs] using hw
  have hnext : w ≠ 0 → meansNext q = true := fun hw => by simpa [meansNext, Request.hasCode, hcode, hargs] using hw
  rcases hc with ⟨rfl, rfl⟩ | ⟨rfl, rfl⟩ | ⟨hw, rfl | rfl⟩
  · exact congrArg Host.Outcome.next (hserve _ (hnow (by decide)))
  · exact congrArg Host.Outcome.next (hserve _ (hnext (by decide)))
  · exact congrArg Host.Outcome.next (hserve _ (hnow (by rintro rfl; exact absurd hw (by decide))))
  · exact congrArg Host.Outcome.next (hserve _ (hnext (by rintro rfl; exact absurd hw (by decide))))

theorem argByte_cons_zero (w : Byte) (text : List Byte) : argByte (w :: text) 0 = w.toNat := rfl

theorem capture_badArgument (hargs : q.args = w :: text) (h : 1 < w ∨ ∃ b ∈ text, b < 0x20 ∨ 0x7E < b) :
    s.capture p q = .plain s .badArgument := by
  simp only [State.capture, hargs, argByte_cons_zero, List.drop_one, List.tail_cons]
  rcases h with hw | hbad
  · exact if_pos (by simpa [BitVec.lt_def] using hw)
  · rw [all_printable_eq_false hbad, if_pos rfl, ite_self]

/-- With its arguments right a CAPTURE comes to what the lowest EMPTY record allows (R124). -/
theorem capture_eq (hargs : q.args = w :: text) (hw : w ≤ 1) (ht : ∀ b ∈ text, 0x20 ≤ b ∧ b ≤ 0x7E) :
    s.capture p q = s.store.lowestEmpty.elim (.plain s .storeFull) fun j =>
      if w = 0 then s.captureNow p j text else s.captureNext p j text := by
  have hle : ¬ 1 < w.toNat := by simpa [BitVec.le_def] using hw
  have hzero : w.toNat = 0 ↔ w = 0 := by rw [← BitVec.toNat_inj]; rfl
  simp only [State.capture, hargs, argByte_cons_zero, List.drop_one, List.tail_cons, all_printable_eq_true ht, if_neg hle, hzero]
  cases s.store.lowestEmpty <;> rfl

end

section
variable {s : State} {p : Port} {j : SlotId} {text : List Byte}

theorem captureNow_noPicture (h : ∀ x ∈ s.pool.ring, (s.pool.bufRec x).complete = none) :
    s.captureNow p j text = .plain s .noPicture := by
  simp only [State.captureNow, takeNewest_noFrame .page h]

theorem captureNow_tryAgain {b : BufId} {info : FrameMeta} (hb : NewestComplete s.pool b info) (hl : s.pool.ring.length ≤ 2) :
    s.captureNow p j text = .plain s .tryAgain := by
  simp only [State.captureNow, takeNewest_ringShort .page hb hl]

theorem captureNow_stored {serial : Nat} {b : BufId} {info : FrameMeta} {after : Pool} (hserial : SerialDrawn s.store serial)
    (hb : NewestComplete s.pool b info) (ht : Taken s.pool b .page after) :
    s.captureNow p j text = .ok
      (pageStoredIn { s with pool := after, store := { s.store with lastSerial := serial } } j
        { serial := serial, origin := .port p, trigger := .manual, label := text.take 24 } b info (some p))
      ([byte1 j.val] ++ be16 serial ++ be32 info.frame.toNat) := by
  simp only [State.captureNow, takeNewest_taken hb ht rfl, hserial.nextSerial, storePage_eq]
  rfl

theorem captureNext_eq {serial : Nat} (hserial : SerialDrawn s.store serial) :
    s.captureNext p j text =
      { state := { s with store := { s.store.setPage j (.reserved
          { serial := serial, origin := .port p, trigger := .manual, label := text.take 24 } s.intake.startCount) with
            lastSerial := serial } }
        status := .accepted
        results := [byte1 j.val] ++ be16 serial ++ be32 s.intake.startCount.toNat } := by
  simp only [State.captureNext, hserial.nextSerial]
  rfl

end

/-- Settles O47: the arguments, the record, then the take of the newest complete frame or the reservation. -/
theorem captureStoresOrReserves : Obligations.CaptureStoresOrReserves := by
  intro s p k q w text hq hl c hc
  have hexec : ∀ {a : Answer}, s.capture p q = a → exec c s = .next (a.state.reply p k q a.status a.results) := exec_capture hq hl hc
  refine ⟨fun hbad => hexec (capture_badArgument hq.args_eq hbad), fun hw ht => ?_⟩
  have hcapture := capture_eq (s := s) (p := p) hq.args_eq hw ht
  refine ⟨fun hfull => hexec (a := .plain s .storeFull) ?_, fun j serial tag hj hserial htag => ?_⟩
  · rw [hcapture, lowestEmpty_eq_none hfull]
    rfl
  subst htag
  rw [hj.eq, Option.elim_some] at hcapture
  refine ⟨fun h0 hnone => ?_, fun h0 b info hb => ⟨fun hshort => ?_, fun after htaken => ?_⟩, fun h1 => ?_⟩
  · exact hexec (hcapture.trans ((if_pos h0).trans (captureNow_noPicture hnone)))
  · exact hexec (hcapture.trans ((if_pos h0).trans (captureNow_tryAgain hb hshort)))
  · exact hexec (hcapture.trans ((if_pos h0).trans (captureNow_stored hserial hb htaken)))
  · exact hexec (hcapture.trans ((if_neg (by rw [h1]; decide)).trans (captureNext_eq hserial)))

/-! ### A timed capture up to its entry (R130) -/

section
variable {s : State} {j : SlotId}

theorem capturingTimed_storeFull (h : ∀ j : SlotId, s.store.page j ≠ .empty) :
    s.capturingTimed = s.skipping .timed .storeFull 0 := by
  simp only [State.capturingTimed, lowestEmpty_eq_none h]

theorem capturingTimed_noPicture (hj : LowestEmpty s.store j) (h : ∀ x ∈ s.pool.ring, (s.pool.bufRec x).complete = none) :
    s.capturingTimed = s.skipping .timed .noPicture 0 := by
  simp only [State.capturingTimed, hj.eq, takeNewest_noFrame .page h]

variable {b : BufId} {info : FrameMeta}

theorem capturingTimed_busy (hj : LowestEmpty s.store j) (hb : NewestComplete s.pool b info) (hl : s.pool.ring.length ≤ 2) :
    s.capturingTimed = s.skipping .timed .busy 0 := by
  simp only [State.capturingTimed, hj.eq, takeNewest_ringShort .page hb hl]

theorem capturingTimed_stored {pool : Pool} (hj : LowestEmpty s.store j) (hb : NewestComplete s.pool b info)
    (ht : Taken s.pool b .page pool) : s.capturingTimed = s.storingAuto j .timed b info pool := by
  simp only [State.capturingTimed, hj.eq, takeNewest_taken hb ht rfl]

theorem TimedCaptured.state_eq {captured : State} (h : TimedCaptured s captured) : s.capturingTimed.state = captured := by
  rcases h with ⟨hfull, rfl⟩ | ⟨j, serial, hj, hserial, ⟨hnone, rfl⟩ | ⟨b, info, hb, ⟨hl, rfl⟩ | ⟨pool, ht, rfl⟩⟩⟩
  · rw [capturingTimed_storeFull hfull]
    rfl
  · rw [capturingTimed_noPicture hj hnone]
    rfl
  · rw [capturingTimed_busy hj hb hl]
    rfl
  · rw [capturingTimed_stored hj hb ht, State.storingAuto, storing_state, hserial.nextSerial]
    rfl

end

/-- A posted notice leaves the request a port hands on. -/
theorem current_take (r : PortRec) (n : Notice) : (r.take n).current = r.current := by
  simp [PortRec.current]

theorem current_postAll (s : State) (n : Notice) (o : Option Port) (p : Port) :
    ((s.postAll n o).port p).current = (s.port p).current := by
  rw [State.port_postAll]
  split
  · rfl
  · exact current_take _ n

theorem current_capturingTimed (s : State) (p : Port) : (s.capturingTimed.state.port p).current = (s.port p).current := by
  unfold State.capturingTimed
  split
  · exact current_postAll ..
  · split
    · exact current_postAll ..
    · exact current_postAll ..
    · exact current_postAll ..

/-! ### The LESSON_PAUSE between the capture and its entry (R147, R159; log 17) -/

theorem servePause_other {s : State} {p : Port} (h : ∀ k q, (s.port p).current = some (k, q) → q.code ≠ 0x51) :
    s.servePause p = s := by
  unfold State.servePause State.serve
  split
  · rfl
  · next k q hcur =>
    have hcode : q.hasCode 0x51 = false := by
      have hne : ¬ q.code.toNat = 0x51 := fun hn => h k q hcur (BitVec.eq_of_toNat_eq hn)
      simpa [Request.hasCode] using hne
    exact if_neg (by simp [hcode])

/-- A lesson that is RUNNING pauses, with its notice and its entry. -/
theorem lessonPause_eq {s : State} (p : Port) (h : s.lesson.state = .running) :
    s.lessonPause p =
      .ok (lessonChanged s { s.lesson with state := .paused } .pause p .lessonPaused 0)
        (lessonReply { s.lesson with state := .paused }) := by
  simp only [State.lessonPause, h]
  rfl

theorem servePause_eq {s : State} {p : Port} {k : Fin 4} {q : Request} (hq : Hands s p k q 0x51 []) (h : s.lesson.state = .running) :
    s.servePause p = (lessonChanged s { s.lesson with state := .paused } .pause p .lessonPaused 0).reply p k q .ok
      (lessonReply { s.lesson with state := .paused }) := by
  have hserve := serveOpen_answer (fun _ s => s.lessonPause p) hq rfl rfl (lessonPause_eq p h)
  exact Host.Outcome.next.inj hserve

/-- Outside RUNNING an entry that is offered is dropped (R153). -/
theorem offer_dropped {s : State} (o : Offer) (h : s.lesson.state ≠ .running) : s.offer o = s := by
  rw [State.offer, Timeline.offer_dropped _ _ _ _ h]
  rfl

/-! ### The expiry of the timed counter (R144, R151) -/

theorem exec_expiry_none {s : State} (pause : Option Port)
    (h : s.lesson.state ≠ .running ∨ s.lesson.time = 8639999 ∨ s.params.timedInterval = 0 ∨
      s.lesson.timed + 1 < s.params.timedInterval) : exec (.timedCaptureExpiry pause) s = .next s := by
  refine congrArg Host.Outcome.next (if_neg fun hdue => ?_)
  obtain ⟨hcounting, hexpiry⟩ := Bool.and_eq_true_iff.1 hdue
  obtain ⟨hrunning, htime⟩ := of_decide_eq_true hcounting
  obtain ⟨hset, hle⟩ := of_decide_eq_true hexpiry
  rcases h with h | h | h | h
  · exact h hrunning
  · exact absurd htime (by rw [h]; decide)
  · exact hset h
  · omega

/-- The state in which the counter has expired (R151). -/
def counterCleared (s : State) : State := { s with lesson := { s.lesson with timed := 0 } }

/-- At the expiry the counter is cleared and the timed capture made. -/
theorem exec_expiry_due {s : State} (pause : Option Port) (hr : s.lesson.state = .running) (ht : s.lesson.time < 8639999)
    (hset : s.params.timedInterval ≠ 0) (hle : s.params.timedInterval ≤ s.lesson.timed + 1) :
    exec (.timedCaptureExpiry pause) s = .next ((counterCleared s).timedCapture pause) := by
  have hcounting : s.lesson.counting = true := decide_eq_true ⟨hr, ht⟩
  have hdue : s.expiryDue = true := decide_eq_true ⟨hset, hle⟩
  refine congrArg Host.Outcome.next ((if_pos (by rw [hcounting, hdue]; rfl)).trans ?_)
  exact (if_neg hset).trans (if_pos hdue)

/-- Settles O49: the lesson second at which the counter expires, then the timed capture, and the LESSON_PAUSE at the port named, if
there is one. -/
theorem timedCaptureStoresOrSkips : Obligations.TimedCaptureStoresOrSkips := by
  refine ⟨fun s pause h => exec_expiry_none pause h, fun s expired hr htime hset hle hexpired => ?_⟩
  obtain rfl : expired = counterCleared s := hexpired
  have hexec := fun pause => exec_expiry_due pause hr htime hset hle
  refine ⟨fun hfull => ?_, fun j serial hj hserial => ⟨fun hnone => ?_, fun b info hb => ⟨fun hl => ?_, fun pool ht => ?_⟩⟩,
    fun p hother => ?_, fun p k q captured hq hcaptured => ?_⟩
  · rw [hexec, State.timedCapture, capturingTimed_storeFull (s := counterCleared s) hfull, skipping_entered]
  · rw [hexec, State.timedCapture, capturingTimed_noPicture (s := counterCleared s) hj hnone, skipping_entered]
  · rw [hexec, State.timedCapture, capturingTimed_busy (s := counterCleared s) hj hb hl, skipping_entered]
  · rw [hexec, State.timedCapture, capturingTimed_stored (s := counterCleared s) hj hb ht,
      storingAuto_entered (counterCleared s) j .timed b info pool hserial]
    rfl
  · have hmeet : (counterCleared s).capturingTimed.state.servePause p = (counterCleared s).capturingTimed.state :=
      servePause_other fun k q hcur => hother k q ((current_capturingTimed (counterCleared s) p).symm.trans hcur)
    rw [hexec, hexec, State.timedCapture, Doing.entered, State.meetPause, hmeet]
    rfl
  · obtain ⟨hcur, hcode, hargs⟩ := hq
    have hstate := hcaptured.state_eq
    have hlesson : captured.lesson.state = .running := by
      rw [← hstate, show (counterCleared s).capturingTimed.state.lesson = (counterCleared s).lesson by simp]
      exact hr
    have hands : Hands captured p k q 0x51 [] :=
      ⟨by rw [← hstate, current_capturingTimed]; exact hcur, hcode, hargs⟩
    rw [hexec, State.timedCapture, Doing.entered, hstate, State.meetPause, servePause_eq hands hlesson, offer_dropped]
    simp [lessonChanged]

end Sys2Proof.Statements

/-! SUPPORT. Lesson clock: the record after a millisecond tick in the words of the statement, and the five lesson requests in every
lesson state. -/
namespace Sys2Proof.Statements

open Sys2Proof.Machine

/-- Settles O1: with a command at the front of the queue, a step is that command on the queue's rest. -/
theorem stepRunsTheFrontCommand : Obligations.StepRunsTheFrontCommand := fun _ _ _ => rfl

/-! ### The chain (R143, R144) -/

/-- The lesson record with its chain showing `now` centiseconds (R143). -/
def clockShowing (l : Lesson) (now : Nat) : Lesson :=
  { l with hundredths := now % 100, seconds := now / 100 % 60, minutes := now / 6000 % 60, hours := now / 360000 }

theorem time_clockShowing (l : Lesson) (now : Nat) : (clockShowing l now).time = now := by
  simp only [Lesson.time, clockShowing]
  omega

/-- Figures in range are the ones that show their time. -/
theorem clockShowing_eq (l : Lesson) {now h s m o : Nat} (hh : h ≤ 99) (hs : s ≤ 59) (hm : m ≤ 59)
    (hnow : now = 360000 * o + 6000 * m + 100 * s + h) :
    clockShowing l now = { l with hundredths := h, seconds := s, minutes := m, hours := o } := by
  simp only [clockShowing, Lesson.mk.injEq, true_and, and_true]
  omega

/-- A centisecond raises the time shown by one, and carries into the seconds from 99 hundredths (R144). -/
theorem centisecond_eq {l : Lesson} (h : l.InRange) :
    l.centisecond = (clockShowing l (l.time + 1), decide (l.hundredths = 99)) := by
  obtain ⟨-, hh, hs, hm, -, -, -⟩ := h
  have hshown : ∀ h s m o, h ≤ 99 → s ≤ 59 → m ≤ 59 → l.time + 1 = 360000 * o + 6000 * m + 100 * s + h →
      { l with hundredths := h, seconds := s, minutes := m, hours := o } = clockShowing l (l.time + 1) :=
    fun h s m o hh hs hm hnow => (clockShowing_eq l hh hs hm hnow).symm
  have htime : l.time = 360000 * l.hours + 6000 * l.minutes + 100 * l.seconds + l.hundredths := rfl
  unfold Lesson.centisecond
  split
  · exact Prod.ext (hshown _ _ _ _ (by omega) hs hm (by omega)) (decide_eq_false (by omega)).symm
  · have hcarry : decide (l.hundredths = 99) = true := decide_eq_true (by omega)
    rw [hcarry]
    split
    · exact Prod.ext (hshown _ _ _ _ (by omega) (by omega) hm (by omega)) rfl
    · split
      · exact Prod.ext (hshown _ _ _ _ (by omega) (by omega) (by omega) (by omega)) rfl
      · exact Prod.ext (hshown _ _ _ _ (by omega) (by omega) (by omega) (by omega)) rfl

/-! ### A tick at the lesson clock (R144) -/

/-- Outside RUNNING and at 23:59:59.99 the clock counts no ticks. -/
theorem not_counting {l : Lesson} (h : l.state ≠ .running ∨ l.time = 8639999) : l.counting = false := by
  refine decide_eq_false ?_
  rintro ⟨hrunning, htime⟩
  exact h.elim (· hrunning) fun hlast => absurd htime (by rw [hlast]; decide)

theorem tick_held {l : Lesson} (h : l.counting = false) : l.tick = (l, false) := by
  simp [Lesson.tick, h]

theorem tick_below {l : Lesson} (h : l.counting = true) (ht : l.ticks < 9) : l.tick = ({ l with ticks := l.ticks + 1 }, false) := by
  simp [Lesson.tick, h, show ¬ 10 ≤ l.ticks + 1 by omega]

theorem tick_tenth {l : Lesson} (hl : l.InRange) (h : l.counting = true) (ht : l.ticks = 9) :
    l.tick = (clockShowing { l with ticks := 0 } (l.time + 1), decide (l.hundredths = 99)) := by
  have hzero : Lesson.InRange { l with ticks := 0 } := { hl with ticks := Nat.zero_le 9 }
  simp only [Lesson.tick, h, ht, Nat.le_refl, if_true]
  exact centisecond_eq hzero

/-- A tick completes a centisecond where the clock counts and nine ticks have passed. -/
theorem centisecondDue_iff {l : Lesson} (hl : l.InRange) : l.centisecondDue = true ↔ l.counting = true ∧ l.ticks = 9 := by
  have hle := hl.ticks
  simp only [Lesson.centisecondDue, Bool.and_eq_true, decide_eq_true_eq]
  exact and_congr_right fun _ => by omega

section
variable {s : State} (pause : Option Port)

/-- A tick without a carry into the seconds changes the lesson record alone. -/
theorem clockTick_eq {l : Lesson} (h : s.lesson.tick = (l, false)) : s.clockTick pause = { s with lesson := l } := by
  simp only [State.clockTick, h]
  rfl

theorem clockTick_second {l : Lesson} (h : s.lesson.tick = (l, true)) :
    s.clockTick pause = ({ s with lesson := l } : State).lessonSecond pause := by
  simp only [State.clockTick, h]
  rfl

theorem exec_clockCentisecond_not_due (h : ¬ s.lesson.centisecondDue = true) : exec (.clockCentisecond pause) s = .next s :=
  congrArg Host.Outcome.next (if_neg h)

theorem exec_clockCentisecond_due (h : s.lesson.centisecondDue = true) :
    exec (.clockCentisecond pause) s = .next (s.clockTick pause) :=
  congrArg Host.Outcome.next (if_pos h)

end

/-! ### The timed counter (R151) -/

section
variable {s : State} (pause : Option Port)

theorem lessonSecond_off (h : s.params.timedInterval = 0) : s.lessonSecond pause = s := if_pos h

theorem lessonSecond_counts (h : s.params.timedInterval ≠ 0) (hlt : s.lesson.timed + 1 < s.params.timedInterval) :
    s.lessonSecond pause = { s with lesson := { s.lesson with timed := s.lesson.timed + 1 } } := by
  have hdue : ¬ s.expiryDue = true := by simp [State.expiryDue, Nat.not_le.2 hlt]
  exact (if_neg h).trans (if_neg hdue)

theorem lessonSecond_expires (h : s.params.timedInterval ≠ 0) (hle : s.params.timedInterval ≤ s.lesson.timed + 1) :
    s.lessonSecond pause = ({ s with lesson := { s.lesson with timed := 0 } } : State).timedCapture pause := by
  have hdue : s.expiryDue = true := decide_eq_true ⟨h, hle⟩
  exact (if_neg h).trans (if_pos hdue)

end

/-- Settles O53: a tick that the clock does not count, one below the tenth, and the tenth with and without its carry into the
seconds. -/
theorem lessonClockCountsTime : Obligations.LessonClockCountsTime := by
  intro s pause hclock
  have hrange := s.clockOk_iff.1 hclock
  refine ⟨fun hheld => ?_, fun hrunning htime => ?_⟩
  · have hcounting := not_counting hheld
    have hdue : ¬ s.lesson.centisecondDue = true := by simp [Lesson.centisecondDue, hcounting]
    exact ⟨clockTick_eq pause (tick_held hcounting), exec_clockCentisecond_not_due pause hdue⟩
  · have hcounting : s.lesson.counting = true := decide_eq_true ⟨hrunning, htime⟩
    refine ⟨fun hticks => ⟨clockTick_eq pause (tick_below hcounting hticks), ?_⟩, fun hticks now l hnow hl => ?_⟩
    · exact exec_clockCentisecond_not_due pause fun hdue => by
        obtain ⟨-, hnine⟩ := (centisecondDue_iff hrange).1 hdue
        omega
    · obtain rfl : l = clockShowing { s.lesson with ticks := 0 } (s.lesson.time + 1) := by rw [hl, hnow]; rfl
      have htick := tick_tenth hrange hcounting hticks
      refine ⟨exec_clockCentisecond_due pause ((centisecondDue_iff hrange).2 ⟨hcounting, hticks⟩), fun hquiet => ?_,
        fun hcarry hset => ?_⟩
      · by_cases hcarry : s.lesson.hundredths = 99
        · have hoff : s.params.timedInterval = 0 := hquiet.resolve_left (by omega)
          rw [decide_eq_true hcarry] at htick
          exact (clockTick_second pause htick).trans (lessonSecond_off pause hoff)
        · rw [decide_eq_false hcarry] at htick
          exact clockTick_eq pause htick
      · rw [decide_eq_true hcarry] at htick
        have hsecond := clockTick_second pause htick
        exact ⟨fun hlt => hsecond.trans (lessonSecond_counts pause hset hlt),
          fun hle => hsecond.trans (lessonSecond_expires pause hset hle)⟩

/-! ### The lesson requests (R145–R149, R158) -/

/-- The number of a new lesson is the next one, and 1 after 65535 (R145). -/
theorem number_started {l : Lesson} (h : l.number ≤ 65535) :
    l.started.number = if l.number = 65535 then 1 else l.number + 1 := by
  simp only [Lesson.started]
  split <;> omega

section
variable {s : State} (p : Port)

theorem lessonStart_eq (h : s.lesson.state = .idle) :
    s.lessonStart p = .ok (lessonChanged s s.lesson.started .start p .lessonStarted s.lesson.started.number)
      (lessonReply s.lesson.started) := by
  simp only [State.lessonStart, h]
  rfl

theorem lessonResume_eq (h : s.lesson.state = .paused) :
    s.lessonResume p = .ok (lessonChanged s { s.lesson with state := .running } .resume p .lessonResumed 0)
      (lessonReply { s.lesson with state := .running }) := by
  simp only [State.lessonResume, h]
  rfl

theorem lessonEnd_eq (h : s.lesson.state = .running ∨ s.lesson.state = .paused) :
    s.lessonEnd p = .ok (lessonChanged s { s.lesson with state := .closing } .end_ p .lessonEnded s.lesson.number)
      (lessonReply { s.lesson with state := .closing }) := by
  rcases h with h | h
  all_goals
    simp only [State.lessonEnd, h]
    rfl

theorem lessonClear_eq (h : s.lesson.state = .closing) :
    s.lessonClear = .ok
      (({ s with lesson := { s.lesson with state := .idle }, timeline := { s.timeline with entries := [], gap := 0 } } : State).postAll
        (.lessonState .idle .closing s.lesson.number s.lesson.time .clear) none) (lessonReply { s.lesson with state := .idle }) := by
  simp only [State.lessonClear, State.changeLesson, State.lesson_withTimeline, h]
  rfl

/-- The answer of a lesson request in a state it does not fit. -/
def wrongLessonState (s : State) : Answer := { state := s, status := .wrongState, results := lessonReply s.lesson }

theorem lessonStart_wrong (h : s.lesson.state ≠ .idle) : s.lessonStart p = wrongLessonState s := by
  unfold State.lessonStart
  split
  · contradiction
  · rfl

theorem lessonPause_wrong (h : s.lesson.state ≠ .running) : s.lessonPause p = wrongLessonState s := by
  unfold State.lessonPause
  split
  · contradiction
  · rfl

theorem lessonResume_wrong (h : s.lesson.state ≠ .paused) : s.lessonResume p = wrongLessonState s := by
  unfold State.lessonResume
  split
  · contradiction
  · rfl

theorem lessonEnd_wrong (h : s.lesson.state = .idle ∨ s.lesson.state = .closing) : s.lessonEnd p = wrongLessonState s := by
  rcases h with h | h
  all_goals
    simp only [State.lessonEnd, h]
    rfl

theorem lessonClear_wrong (h : s.lesson.state ≠ .closing) : s.lessonClear = wrongLessonState s := by
  unfold State.lessonClear
  split
  · contradiction
  · rfl

end

/-- Settles O52: each request carried out as its answer at the lesson clock, in the state it fits and in the others. -/
theorem lessonRequestsChangeTheState : Obligations.LessonRequestsChangeTheState := by
  intro s p k q hnumber
  refine ⟨fun hq n l hn hl => ?_, fun hq l hl => ?_, fun hq l hl => ?_, fun hq l hl => ?_, fun hq l hl => ?_⟩
  · obtain rfl : n = s.lesson.started.number := hn.trans (number_started hnumber).symm
    obtain rfl : l = s.lesson.started := hl
    have hserve := fun answer => serveOpen_answer (answer := answer) (fun _ s => s.lessonStart p) hq rfl rfl
    exact ⟨fun h => hserve _ (lessonStart_eq p h), fun h => hserve _ (lessonStart_wrong p h)⟩
  · subst hl
    have hserve := fun answer => serveOpen_answer (answer := answer) (fun _ s => s.lessonPause p) hq rfl rfl
    exact ⟨fun h => hserve _ (lessonPause_eq p h), fun h => hserve _ (lessonPause_wrong p h)⟩
  · subst hl
    have hserve := fun answer => serveOpen_answer (answer := answer) (fun _ s => s.lessonResume p) hq rfl rfl
    exact ⟨fun h => hserve _ (lessonResume_eq p h), fun h => hserve _ (lessonResume_wrong p h)⟩
  · subst hl
    have hserve := fun answer => serveOpen_answer (answer := answer) (fun _ s => s.lessonEnd p) hq rfl rfl
    exact ⟨fun h => hserve _ (lessonEnd_eq p h), fun h => hserve _ (lessonEnd_wrong p h)⟩
  · subst hl
    have hserve := fun answer => serveOpen_answer (answer := answer) (fun _ s => s.lessonClear) hq rfl rfl
    exact ⟨fun h => hserve _ (lessonClear_eq h), fun h => hserve _ (lessonClear_wrong h)⟩

end Sys2Proof.Statements

/-! SUPPORT. Timeline entries: how an offer is coalesced or appended, and what keeps the entries in order. -/
namespace Sys2Proof.Machine

/-! ### Offers (R153, R154) -/

/-- The offer has the newest entry `e` to be coalesced into (R154). -/
structure Offer.Coalesces (o : Offer) (time : Nat) (e : Entry) : Prop where
  offered : o.kind = .viewChanged
  newest : e.what.kind = .viewChanged
  port : e.what.port = o.port
  unsealed : e.isSealed = false
  recent : time ≤ e.time + 100

theorem Timeline.mergesInto_eq_some {t : Timeline} {time : Nat} {o : Offer} {e : Entry} :
    t.mergesInto time o = some e ↔ t.entries.getLast? = some e ∧ o.Coalesces time e := by
  unfold Timeline.mergesInto
  constructor
  · intro h
    split at h
    · next x hx =>
      split at h
      · next hc =>
        obtain ⟨hoffered, hnewest, hport, hunsealed, hrecent⟩ := hc
        cases h
        exact ⟨hx, hoffered, hnewest, hport, hunsealed, by omega⟩
      · cases h
    · cases h
  · rintro ⟨hlast, hoffered, hnewest, hport, hunsealed, hrecent⟩
    rw [hlast]
    exact if_pos ⟨hoffered, hnewest, hport, hunsealed, by omega⟩

theorem Timeline.offer_coalesced {t : Timeline} {time : Nat} {o : Offer} {earlier : List Entry} {e : Entry}
    (ht : t.entries = earlier ++ [e]) (h : o.Coalesces time e) :
    t.offer .running time o = { t with
      entries := earlier ++ [{ e with time := time, what := { e.what with page := o.page, view := o.view } }] } := by
  have hmerge : t.mergesInto time o = some e := Timeline.mergesInto_eq_some.2 ⟨by simp [ht], h⟩
  simp [Timeline.offer, hmerge, ht]

theorem Timeline.offer_appended {t : Timeline} {time : Nat} {o : Offer}
    (h : ∀ e, t.entries.getLast? = some e → ¬ o.Coalesces time e) : t.offer .running time o = t.append time o := by
  have hmerge : t.mergesInto time o = none :=
    Option.eq_none_iff_forall_ne_some.2 fun e he => by
      obtain ⟨hlast, hc⟩ := Timeline.mergesInto_eq_some.1 he
      exact h e hlast hc
  simp [Timeline.offer, hmerge]

/-- Settles O54: the append with and without room, and the offer dropped, coalesced and appended. -/
theorem timelineTakesEntries : Obligations.TimelineTakesEntries := by
  intro t time o
  refine ⟨t.append_room time o, t.append_full time o, fun state h => t.offer_dropped state time o h,
    fun earlier e ht hoffered hnewest hport hunsealed hrecent =>
      Timeline.offer_coalesced ht ⟨hoffered, hnewest, hport, hunsealed, hrecent⟩,
    fun hother => Timeline.offer_appended fun e he hc => ?_⟩
  rcases hother with hkind | hnil | ⟨earlier, newest, ht, hnewest⟩
  · exact hkind hc.offered
  · simp [hnil] at he
  · obtain rfl : newest = e := by simpa [ht] using he
    rcases hnewest with hkind | hport | hsealed | hold
    · exact hkind hc.newest
    · exact hport hc.port
    · simp [hc.unsealed] at hsealed
    · exact absurd hc.recent (Nat.not_le.2 hold)

end Sys2Proof.Machine

/-! SUPPORT. Timeline order: the invariant of the timeline against the lesson record, and what each operation on either keeps of it. -/
namespace Sys2Proof.Machine

open Sys2Proof.Statements

/-! ### Numbers that run on (R152) -/

/-- Each sequence number is followed by the one after it, and the newest by the number to be given next (R152). -/
def Timeline.Numbered (t : Timeline) : Prop := (t.entries.map Entry.seq ++ [t.nextSeq]).IsChain fun a b => a + 1 = b

/-- Each of the numbers is as far before the next one as its place is from the end. -/
theorem numbered_places (l : List Entry) (next : Half) :
    (∀ i : Fin l.length, l[i].seq + BitVec.ofNat 16 (l.length - i.val) = next) ↔
      (l.map Entry.seq ++ [next]).IsChain fun a b => a + 1 = b := by
  induction l with
  | nil => simp
  | cons e l ih =>
    have hplaces : (∀ i : Fin (e :: l).length, (e :: l)[i].seq + BitVec.ofNat 16 ((e :: l).length - i.val) = next) ↔
        e.seq + BitVec.ofNat 16 (l.length + 1) = next ∧ ∀ i : Fin l.length, l[i].seq + BitVec.ofNat 16 (l.length - i.val) = next := by
      refine (Fin.forall_fin_succ (n := l.length)).trans (and_congr Iff.rfl (forall_congr' fun i => ?_))
      simp
    rw [hplaces, ih]
    cases l with
    | nil => simp
    | cons d l =>
      simp only [List.map_cons, List.cons_append, List.isChain_cons_cons]
      refine and_congr_left fun hrest => ?_
      have hsucc : BitVec.ofNat 16 ((d :: l).length + 1) = 1 + BitVec.ofNat 16 (d :: l).length := by
        rw [Nat.add_comm, BitVec.ofNat_add]
        rfl
      have hhead : d.seq + BitVec.ofNat 16 (d :: l).length = next := ih.2 hrest ⟨0, Nat.succ_pos _⟩
      rw [hsucc, ← hhead, ← BitVec.add_assoc, BitVec.add_left_inj]

theorem Timeline.numbered_iff (t : Timeline) : t.consecutive ↔ t.Numbered := numbered_places t.entries t.nextSeq

/-- The numbers run on past an entry that took the next one. -/
theorem Timeline.Numbered.appended {t after : Timeline} {e : Entry} (h : t.Numbered) (he : after.entries = t.entries ++ [e])
    (hseq : e.seq = t.nextSeq) (hnext : after.nextSeq = t.nextSeq + 1) : after.Numbered := by
  unfold Timeline.Numbered at h ⊢
  rw [he, List.map_append, List.append_assoc, hnext, List.map_cons, List.map_nil, hseq]
  exact List.isChain_split.2 ⟨h, .cons_cons rfl (.singleton _)⟩

/-- The oldest entries leave the numbers of the others. -/
theorem Timeline.Numbered.suffix {t after : Timeline} (h : t.Numbered) (he : after.entries <:+ t.entries)
    (hnext : after.nextSeq = t.nextSeq) : after.Numbered := by
  obtain ⟨oldest, he⟩ := he
  unfold Timeline.Numbered at h ⊢
  rw [← he, List.map_append, List.append_assoc] at h
  rw [hnext]
  exact h.right_of_append

/-! ### The timeline in order (R144, R152, R155, R156) -/

/-- The timeline in order against the lesson record. -/
structure Timeline.Ordered (t : Timeline) (l : Lesson) : Prop where
  room : t.entries.length ≤ 256
  gap : t.gap ≤ 65535
  numbered : t.Numbered
  rising : t.entries.Pairwise fun a b => a.time ≤ b.time
  past : ∀ e ∈ t.entries, e.time ≤ l.time
  sealedFirst : t.entries.Pairwise fun a b => b.isSealed = true → a.isSealed = true
  idle : l.state = .idle → t.entries = []

theorem State.timelineOk_iff (s : State) : s.timelineOk ↔ s.timeline.Ordered s.lesson :=
  ⟨fun ⟨hroom, hgap, hnumbered, hrising, hpast, hsealed, hidle⟩ =>
      ⟨hroom, hgap, s.timeline.numbered_iff.1 hnumbered, hrising, hpast, hsealed, hidle⟩,
    fun ⟨hroom, hgap, hnumbered, hrising, hpast, hsealed, hidle⟩ =>
      ⟨hroom, hgap, s.timeline.numbered_iff.2 hnumbered, hrising, hpast, hsealed, hidle⟩⟩

section
variable {t after : Timeline} {l : Lesson}

/-- An empty timeline is in order against every lesson record. -/
theorem Timeline.Ordered.of_empty (l : Lesson) (he : t.entries = []) (hg : t.gap ≤ 65535) : t.Ordered l := by
  constructor <;> simp [he, hg, Timeline.Numbered]

/-- A later lesson time keeps the order. -/
theorem Timeline.Ordered.later {m : Lesson} (h : t.Ordered l) (ht : l.time ≤ m.time) (hi : m.state = .idle → t.entries = []) :
    t.Ordered m :=
  { h with past := fun e he => (h.past e he).trans ht, idle := hi }

/-- An unsealed newest entry of the present time, behind the entries there were or all of these but some of the newest. -/
theorem Timeline.Ordered.newest {kept : List Entry} {e : Entry} (h : t.Ordered l) (hl : l.state ≠ .idle) (hk : kept <+: t.entries)
    (ha : after.entries = kept ++ [e]) (hroom : kept.length < 256) (htime : e.time = l.time) (hopen : e.isSealed = false)
    (hn : after.Numbered) (hg : after.gap ≤ 65535) : after.Ordered l where
  room := by simpa [ha] using hroom
  gap := hg
  numbered := hn
  rising := by
    rw [ha, List.pairwise_append]
    refine ⟨h.rising.sublist hk.sublist, List.pairwise_singleton _ _, fun x hx y hy => ?_⟩
    rw [List.mem_singleton.1 hy, htime]
    exact h.past x (hk.subset hx)
  past := by
    intro x hx
    rw [ha, List.mem_append, List.mem_singleton] at hx
    rcases hx with hx | rfl
    · exact h.past x (hk.subset hx)
    · exact htime.le
  sealedFirst := by
    rw [ha, List.pairwise_append]
    refine ⟨h.sealedFirst.sublist hk.sublist, List.pairwise_singleton _ _, fun x _ y hy hsealed => ?_⟩
    rw [List.mem_singleton.1 hy, hopen] at hsealed
    cases hsealed
  idle := fun hi => absurd hi hl

/-- An appended entry takes the next number and the present time; without room the gap count rises and stops at 65535 (R152, R155). -/
theorem Timeline.Ordered.append (h : t.Ordered l) (hl : l.state ≠ .idle) (o : Offer) : (t.append l.time o).Ordered l := by
  by_cases hroom : t.entries.length < Config.timelineRoom
  · rw [t.append_room _ _ hroom]
    exact h.newest hl (List.prefix_refl _) rfl hroom rfl rfl (h.numbered.appended rfl rfl rfl) h.gap
  · rw [t.append_full _ _ (Nat.not_lt.1 hroom)]
    exact { h with gap := Nat.min_le_left .. }

/-- The newest entry keeps its number where an offer is coalesced into it (R154). -/
theorem Timeline.Ordered.coalesced {earlier : List Entry} {e : Entry} {o : Offer} (h : t.Ordered l) (hl : l.state = .running)
    (he : t.entries = earlier ++ [e]) (hc : o.Coalesces l.time e) : (t.offer .running l.time o).Ordered l := by
  have hroom := h.room
  have hnumbered := h.numbered
  rw [he, List.length_append] at hroom
  unfold Timeline.Numbered at hnumbered
  rw [Timeline.offer_coalesced he hc]
  refine h.newest (kept := earlier) (by simp [hl]) ⟨[e], he.symm⟩ rfl (by simpa using hroom) rfl hc.unsealed ?_ h.gap
  simpa [Timeline.Numbered, he] using hnumbered

/-- An offer is dropped, coalesced or appended (R153, R154). -/
theorem Timeline.Ordered.offer (h : t.Ordered l) (o : Offer) : (t.offer l.state l.time o).Ordered l := by
  by_cases hl : l.state = .running
  · rw [hl]
    by_cases hc : ∃ e, t.entries.getLast? = some e ∧ o.Coalesces l.time e
    · obtain ⟨e, hlast, hc⟩ := hc
      obtain ⟨earlier, he⟩ := List.getLast?_eq_some_iff.1 hlast
      exact h.coalesced hl he hc
    · rw [Timeline.offer_appended fun e he hco => hc ⟨e, he, hco⟩]
      exact h.append (by simp [hl]) o
  · rwa [t.offer_dropped _ _ _ hl]

/-- One sealed mark given to every entry, as by a batch and by a halt (R156). -/
theorem Timeline.Ordered.marked (h : t.Ordered l) (b : Bool) :
    Timeline.Ordered { t with entries := t.entries.map fun e => { e with isSealed := b } } l where
  room := by simpa using h.room
  gap := h.gap
  numbered := by simpa [Timeline.Numbered, Function.comp_def] using h.numbered
  rising := by simpa [List.pairwise_map] using h.rising
  past := by simpa using h.past
  sealedFirst := List.pairwise_map.2 (List.pairwise_of_forall fun _ _ => id)
  idle := fun hi => by simp [h.idle hi]

theorem Timeline.Ordered.sealAll (h : t.Ordered l) : t.sealAll.Ordered l := h.marked true

theorem Timeline.Ordered.unsealAll (h : t.Ordered l) : t.unsealAll.Ordered l := h.marked false

/-- With the sealed entries in front, the unsealed ones are the newest. -/
theorem unsealed_suffix {es : List Entry} (h : es.Pairwise fun a b => b.isSealed = true → a.isSealed = true) :
    (es.filter fun e => !e.isSealed) <:+ es := by
  induction es with
  | nil => exact List.suffix_refl _
  | cons e es ih =>
    obtain ⟨hfront, hrest⟩ := List.pairwise_cons.1 h
    by_cases hsealed : e.isSealed = true
    · rw [List.filter_cons_of_neg (by simp [hsealed])]
      exact (ih hrest).trans (List.suffix_cons e es)
    · have hopen : ∀ d ∈ e :: es, (!d.isSealed) = true := by
        refine List.forall_mem_cons.2 ⟨by simpa using hsealed, fun d hd => ?_⟩
        simpa using fun hd' => hsealed (hfront d hd hd')
      rw [List.filter_eq_self.2 hopen]

/-- The entries left by a batch are in order (R156). -/
theorem Timeline.Ordered.unsealedLeft (h : t.Ordered l) :
    Timeline.Ordered { t with entries := t.entries.filter fun e => !e.isSealed } l where
  room := (List.length_filter_le _ _).trans h.room
  gap := h.gap
  numbered := h.numbered.suffix (unsealed_suffix h.sealedFirst) rfl
  rising := h.rising.sublist List.filter_sublist
  past := fun e he => h.past e (List.mem_of_mem_filter he)
  sealedFirst := h.sealedFirst.sublist List.filter_sublist
  idle := fun hi => by simp [h.idle hi]

/-- A batch that leaves takes its entries away, and a GAP entry follows what was lost (R155, R156). -/
theorem Timeline.Ordered.delivered (h : t.Ordered l) : (t.delivered l.time).Ordered l := by
  unfold Timeline.delivered
  dsimp only
  split
  · next hbatch =>
    obtain ⟨hsome, -⟩ := hbatch
    have hl : l.state ≠ .idle := fun hi => by simp [h.idle hi] at hsome
    have happended := h.unsealedLeft.append hl (gapOffer t.gap)
    exact { happended with gap := Nat.zero_le _ }
  · exact h.unsealedLeft

end

/-! ### The lesson record under a tick (R144) -/

/-- A tick does not set the clock back and leaves the lesson state. -/
theorem Lesson.InRange.tick_later {l : Lesson} (h : l.InRange) : l.time ≤ l.tick.1.time ∧ l.tick.1.state = l.state := by
  by_cases hc : l.counting = true
  · by_cases ht : l.ticks = 9
    · rw [tick_tenth h hc ht, time_clockShowing]
      exact ⟨Nat.le_succ _, rfl⟩
    · have hle := h.ticks
      rw [tick_below hc (by omega)]
      exact ⟨Nat.le_refl _, rfl⟩
  · rw [tick_held (by simpa using hc)]
    exact ⟨Nat.le_refl _, rfl⟩

/-! ### What an operation keeps -/

/-- The records the invariant reads. -/
def State.chronicle (s : State) : Timeline × Lesson := (s.timeline, s.lesson)

/-- The timeline is in order in `t` if it is in `s`. -/
def State.KeepsTimeline (s t : State) : Prop := s.timeline.Ordered s.lesson → t.timeline.Ordered t.lesson

theorem State.KeepsTimeline.refl (s : State) : s.KeepsTimeline s := id

theorem State.KeepsTimeline.trans {s t u : State} (h : s.KeepsTimeline t) (k : t.KeepsTimeline u) : s.KeepsTimeline u :=
  fun hs => k (h hs)

/-- An operation that leaves the timeline and the lesson record keeps the order. -/
theorem State.KeepsTimeline.of_same {s t : State} (h : t.chronicle = s.chronicle) : s.KeepsTimeline t := by
  obtain ⟨htimeline, hlesson⟩ := Prod.mk.inj h
  unfold State.KeepsTimeline
  rw [htimeline, hlesson]
  exact id

theorem State.KeepsTimeline.before {s t u : State} (h : s.KeepsTimeline t) (hu : u.chronicle = t.chronicle) : s.KeepsTimeline u :=
  h.trans (.of_same hu)

theorem State.KeepsTimeline.after {s t u : State} (h : t.KeepsTimeline u) (ht : t.chronicle = s.chronicle) : s.KeepsTimeline u :=
  (State.KeepsTimeline.of_same ht).trans h

theorem State.keepsTimeline_offer (s : State) (o : Offer) : s.KeepsTimeline (s.offer o) := fun h => h.offer o

theorem State.keepsTimeline_foldl {α : Type} (f : State → α → State) (h : ∀ s a, State.KeepsTimeline s (f s a)) (l : List α)
    (s : State) : s.KeepsTimeline (l.foldl f s) := by
  induction l generalizing s with
  | nil => exact .refl s
  | cons a l ih => exact (h s a).trans (ih _)

/-- A command that does something on an occasion only. -/
theorem State.keepsTimeline_ite {s t u : State} {c : Prop} [Decidable c]
    (h : (.next (if c then t else s) : Host.Outcome State Fault Refusal) = .next u) (ht : s.KeepsTimeline t) : s.KeepsTimeline u := by
  cases h
  split
  · exact ht
  · exact .refl s

/-! ### The tenancy unit (R115) -/

theorem State.keepsTimeline_handover (s : State) (t : Tenancy) (c : TenancyCause) : s.KeepsTimeline (s.handover t c) :=
  .after (State.keepsTimeline_offer _ _) rfl

theorem State.keepsTimeline_grantBest (s : State) (c : TenancyCause) (tell : Bool) : s.KeepsTimeline (s.grantBest c tell) := by
  unfold State.grantBest
  split
  · exact .refl s
  · next w rest _ =>
    refine (s.keepsTimeline_handover { holder := some w.port, holdFast := w.holdFast, singleUse := w.singleUse, idle := 0,
                                       waiters := rest } c).before ?_
    dsimp only
    split
    · cases tell <;> rfl
    · rfl

theorem State.keepsTimeline_evaluate (n : Nat) (s : State) : s.KeepsTimeline (State.evaluate n s) := by
  induction n generalizing s with
  | zero => exact .refl s
  | succ n ih =>
    unfold State.evaluate
    split
    · exact (s.keepsTimeline_grantBest _ _).trans (ih _)
    · exact .refl s

theorem State.keepsTimeline_settle (s : State) : s.KeepsTimeline s.settle := State.keepsTimeline_evaluate _ s

theorem State.keepsTimeline_passOn (s : State) (c : TenancyCause) : s.KeepsTimeline (s.passOn c) := by
  unfold State.passOn
  split
  · exact s.keepsTimeline_handover _ c
  · exact (s.keepsTimeline_grantBest c false).trans (State.keepsTimeline_settle _)

theorem State.keepsTimeline_portReset (s : State) (p : Port) (k : Option (Fin 4)) : s.KeepsTimeline (s.portReset p k) := by
  unfold State.portReset State.tenancyReset
  split
  · exact .after (State.keepsTimeline_passOn _ _) rfl
  · exact .of_same rfl

theorem State.keepsTimeline_singleUseStep (s : State) : s.KeepsTimeline s.singleUseStep := by
  unfold State.singleUseStep
  split
  · exact (s.keepsTimeline_grantBest _ _).trans (State.keepsTimeline_settle _)
  · exact .refl s

theorem State.keepsTimeline_passTenancy {s t : State} {p : Port} (h : s.passTenancy p = some t) : s.KeepsTimeline t := by
  unfold State.passTenancy at h
  split at h
  · cases h; exact s.keepsTimeline_handover _ _
  · split at h <;> cases h
    exact .of_same rfl

theorem State.keepsTimeline_tenancyTick (s : State) : s.KeepsTimeline s.tenancyTick := .after (State.keepsTimeline_settle _) rfl

theorem State.keepsTimeline_claim (s : State) (p : Port) (q : Request) : s.KeepsTimeline (s.claim p q).state := by
  unfold State.claim
  split
  · exact .refl s
  · dsimp only
    split
    · exact s.keepsTimeline_handover _ _
    · split
      · exact .after (State.keepsTimeline_settle _) rfl
      · split
        · exact (s.keepsTimeline_handover (s.tenancy.claimed p (decide (argByte q.args 1 = 1)) (decide (argByte q.args 2 = 1)))
            .preempted).trans (.after (State.keepsTimeline_settle _) rfl)
        · split
          · exact .after (State.keepsTimeline_settle _) rfl
          · exact .refl s

theorem State.keepsTimeline_release (s : State) (p : Port) : s.KeepsTimeline (s.release p).state := by
  simp only [State.release, Answer.ok]
  split
  · exact s.keepsTimeline_passOn _
  · exact .refl s

/-! ### Carrying out a request (R104, R181) -/

theorem State.keepsTimeline_serve (s : State) (p : Port) (meant : Request → Bool) (body : Request → State → Answer)
    (h : ∀ q, s.KeepsTimeline (body q s).state) : s.KeepsTimeline (s.serve p meant body) := by
  unfold State.serve
  split
  · exact .refl s
  · split
    · split
      · exact (h _).before rfl
      · exact .of_same rfl
    · exact .refl s

theorem keepsTimeline_serveOpen {code : Nat} {p : Port} {body : Request → State → Answer} {s t : State}
    (ht : serveOpen code p body s = .next t) (h : ∀ q, s.KeepsTimeline (body q s).state) : s.KeepsTimeline t := by
  cases ht
  exact s.keepsTimeline_serve p _ body h

/-- No gated request offers an entry; the gate and the single-use step do. -/
theorem keepsTimeline_serveGated {code : Nat} {p : Port} {body : Request → State → Answer} {s t : State}
    (ht : serveGated code p body s = .next t) (h : ∀ q (u : State), (body q u).state.chronicle = u.chronicle) : s.KeepsTimeline t := by
  cases ht
  refine s.keepsTimeline_serve p _ _ fun q => ?_
  unfold State.gated
  split
  · exact .refl s
  · next u hu => exact ((State.keepsTimeline_passTenancy hu).before (h q u)).trans (State.keepsTimeline_singleUseStep _)

/-! ### The lesson clock (R144–R149, R151, R157–R159) -/

/-- A change of the lesson state at the present time. -/
theorem State.keepsTimeline_changeLesson (s : State) (l : Lesson) (c : LessonCause) (ht : s.lesson.time ≤ l.time)
    (hi : l.state = .idle → s.timeline.entries = []) : s.KeepsTimeline (s.changeLesson l c) :=
  fun h => h.later ht hi

/-- The lesson clock's own entry, outside IDLE (R146). -/
theorem State.keepsTimeline_appendOwn (s : State) (o : Offer) (h : s.lesson.state ≠ .idle) : s.KeepsTimeline (s.appendOwn o) :=
  fun hs => hs.append h o

/-- A change between the lesson states other than IDLE, with its entry (R146). -/
theorem State.keepsTimeline_changed (s : State) (st : LessonState) (c : LessonCause) (o : Offer) (h : st ≠ .idle) :
    s.KeepsTimeline ((s.changeLesson { s.lesson with state := st } c).appendOwn o) :=
  (s.keepsTimeline_changeLesson { s.lesson with state := st } c (Nat.le_refl _) fun hi => absurd hi h).trans
    (State.keepsTimeline_appendOwn _ o h)

/-- A lesson starts in IDLE, where the timeline is empty (R145). -/
theorem State.keepsTimeline_lessonStart (s : State) (p : Port) : s.KeepsTimeline (s.lessonStart p).state := by
  unfold State.lessonStart
  split
  · next hidle =>
    have hstarted : s.KeepsTimeline (s.changeLesson s.lesson.started .start) := fun h => .of_empty _ (h.idle hidle) h.gap
    exact hstarted.trans (State.keepsTimeline_appendOwn _ _ nofun)
  · exact .refl s

theorem State.keepsTimeline_lessonPause (s : State) (p : Port) : s.KeepsTimeline (s.lessonPause p).state := by
  unfold State.lessonPause
  split
  · exact s.keepsTimeline_changed .paused .pause _ nofun
  · exact .refl s

theorem State.keepsTimeline_lessonResume (s : State) (p : Port) : s.KeepsTimeline (s.lessonResume p).state := by
  unfold State.lessonResume
  split
  · exact s.keepsTimeline_changed .running .resume _ nofun
  · exact .refl s

theorem State.keepsTimeline_lessonEnd (s : State) (p : Port) : s.KeepsTimeline (s.lessonEnd p).state := by
  have hend : s.KeepsTimeline (s.endLesson p).state := s.keepsTimeline_changed .closing .end_ _ nofun
  unfold State.lessonEnd
  split
  · exact hend
  · exact hend
  · exact .refl s

/-- LESSON_CLEAR empties the list (R158). -/
theorem State.keepsTimeline_lessonClear (s : State) : s.KeepsTimeline s.lessonClear.state := by
  unfold State.lessonClear
  split
  · exact fun _ => .of_empty _ rfl (Nat.zero_le _)
  · exact .refl s

theorem State.keepsTimeline_meetPause (s : State) (o : Option Port) : s.KeepsTimeline (s.meetPause o) := by
  unfold State.meetPause
  split
  · exact s.keepsTimeline_serve _ _ _ fun q => s.keepsTimeline_lessonPause _
  · exact .refl s

/-- The entry of a capture, with the LESSON_PAUSE that may come before it (R153, R159). -/
theorem Doing.keepsTimeline_entered (d : Doing) (o : Option Port) : d.state.KeepsTimeline (d.entered o) :=
  (d.state.keepsTimeline_meetPause o).trans (State.keepsTimeline_offer _ _)

theorem State.keepsTimeline_lessonSecond (s : State) (o : Option Port) : s.KeepsTimeline (s.lessonSecond o) := by
  have hcounter : ∀ n, s.KeepsTimeline (s.withLesson { s.lesson with timed := n }) := fun _ h => h.later (Nat.le_refl _) h.idle
  unfold State.lessonSecond
  split
  · exact .refl s
  · split
    · exact (hcounter 0).trans (.after (Doing.keepsTimeline_entered _ o) (by simp [State.chronicle]))
    · exact hcounter _

/-- A clock in range does not fall at a tick. -/
theorem State.keepsTimeline_clockTick {s : State} (hl : s.lesson.InRange) (o : Option Port) : s.KeepsTimeline (s.clockTick o) := by
  obtain ⟨htime, hstate⟩ := hl.tick_later
  have htick : s.KeepsTimeline (s.withLesson s.lesson.tick.1) := fun h => h.later htime fun hi => h.idle (hstate.symm.trans hi)
  unfold State.clockTick
  dsimp only
  split
  · exact htick.trans (State.keepsTimeline_lessonSecond _ o)
  · exact htick

/-- The millisecond count is no part of the order. -/
theorem State.keepsTimeline_timelineTick (s : State) : s.KeepsTimeline s.timelineTick := fun h => { h with }

/-- A lesson is drained when its list is empty (R157). -/
theorem State.keepsTimeline_timelineDelivered (s : State) : s.KeepsTimeline s.timelineDelivered := by
  have hleft : s.KeepsTimeline (s.withTimeline (s.timeline.delivered s.lesson.time)) := fun h => h.delivered
  unfold State.timelineDelivered
  dsimp only
  split
  · next hdrained =>
    obtain ⟨-, hnil⟩ := hdrained
    exact hleft.trans (State.keepsTimeline_changeLesson _ _ _ (Nat.le_refl _) fun _ => hnil)
  · exact hleft

/-- SET_PARAM of the interval may clear the timed counter; of the tenancy parameters it evaluates (R103, R109, R111, R151). -/
theorem State.keepsTimeline_ownerActs (s : State) (id kept : Nat) : s.KeepsTimeline (s.ownerActs id kept) := by
  unfold State.ownerActs
  split
  · exact .after (State.keepsTimeline_settle _) rfl
  · exact s.keepsTimeline_settle
  · exact s.keepsTimeline_settle
  · split
    · exact fun h => h.later (Nat.le_refl _) h.idle
    · exact .refl s
  · exact .refl s

theorem State.keepsTimeline_setParam (s : State) (p : Port) (q : Request) : s.KeepsTimeline (s.setParam p q).state := by
  unfold State.setParam
  dsimp only
  split
  · split <;> exact .of_same rfl
  · split
    · exact .after (State.keepsTimeline_ownerActs _ _ _) rfl
    · exact .refl s

/-! ### The export link (R156, R165, R166) -/

/-- A halt clears every sealed mark (R156). -/
theorem State.keepsTimeline_halt (s : State) (cause : HaltCause) : s.KeepsTimeline (s.halt cause) := by
  have hunseal : ∀ u : State, u.KeepsTimeline (u.withTimeline u.timeline.unsealAll) := fun _ h => h.unsealAll
  unfold State.halt
  split
  · exact .refl s
  · unfold State.haltNow
    exact .before (.after (hunseal _) (by simp [State.chronicle])) rfl

theorem State.keepsTimeline_lastByte (s : State) : s.KeepsTimeline s.lastByte := by
  unfold State.lastByte
  split
  · unfold State.delivered
    split
    · exact .of_same (by simp [State.chronicle])
    · exact .after (State.keepsTimeline_timelineDelivered _) rfl
  · exact .refl s

theorem State.keepsTimeline_clockTransfer (s : State) (n : Nat) : s.KeepsTimeline (s.clockTransfer n) := by
  unfold State.clockTransfer
  split
  · split
    · exact .refl s
    · split
      · exact s.keepsTimeline_lastByte
      · exact .of_same rfl
  · exact .of_same rfl
  · exact .refl s

theorem State.keepsTimeline_closeTransfer (s : State) : s.KeepsTimeline s.closeTransfer := by
  unfold State.closeTransfer
  dsimp only
  split
  · exact .after (State.keepsTimeline_halt _ _) rfl
  · exact .of_same rfl

theorem State.keepsTimeline_linkTick (s : State) : s.KeepsTimeline s.linkTick := by
  unfold State.linkTick
  split
  · dsimp only
    split
    · exact .after (State.keepsTimeline_halt _ _) rfl
    · exact .of_same rfl
  · exact .refl s

/-- A TIMELINE block seals its batch; the other blocks leave the timeline (R156, R164). -/
theorem State.keepsTimeline_openTransfer {s t : State} (h : s.openTransfer = .next t) : s.KeepsTimeline t := by
  have hbatch : s.KeepsTimeline s.sendBatch := fun hs => hs.sealAll
  have hpage : ∀ c d, s.sendPage c d = .next t → s.KeepsTimeline t := by
    intro c d hsent
    unfold State.sendPage at hsent
    dsimp only at hsent
    split at hsent
    · cases hsent; exact .of_same rfl
    · split at hsent <;> cases hsent
      exact .of_same rfl
  unfold State.openTransfer State.pullReady at h
  split at h
  · split at h
    · cases h; exact hbatch
    · split at h
      · cases h; exact .of_same rfl
      · split at h
        · exact hpage _ _ h
        · cases h; exact .of_same rfl
  · cases h; exact .of_same rfl
  · cases h; exact .of_same rfl

/-! ### The page store (R126, R133, R134) -/

theorem State.keepsTimeline_storePage (s : State) (k : SlotId) (tag : PageTag) (b : BufId) (info : FrameMeta) (o : Option Port) :
    s.KeepsTimeline (s.storePage k tag b info o) :=
  .after (Doing.keepsTimeline_entered _ none) rfl

theorem State.keepsTimeline_capture (s : State) (p : Port) (q : Request) : s.KeepsTimeline (s.capture p q).state := by
  unfold State.capture
  dsimp only
  split
  · exact .refl s
  · split
    · exact .refl s
    · split
      · exact .refl s
      · split
        · unfold State.captureNow
          split
          · exact .after (State.keepsTimeline_storePage _ _ _ _ _ (some p)) rfl
          · exact .refl s
          · exact .refl s
        · exact .of_same rfl

theorem State.keepsTimeline_fill (s : State) (r : Report) (k : SlotId) : s.KeepsTimeline (s.fill r k) := by
  unfold State.fill
  split
  · split
    · split
      · exact .after (State.keepsTimeline_storePage _ _ _ _ _ none) rfl
      · exact .refl s
    · exact .refl s
  · exact .refl s

theorem State.keepsTimeline_pageTurn (s : State) (r : Report) : s.KeepsTimeline (s.pageTurn r) :=
  .after (Doing.keepsTimeline_entered _ none) (by simp [State.chronicle])

theorem State.keepsTimeline_storeNextReport (s : State) : s.KeepsTimeline s.storeNextReport := by
  unfold State.storeNextReport
  split
  · exact .refl s
  · next r rest _ =>
    have hfill : ∀ u : State, u.KeepsTimeline (u.fillAll r.report) := fun u =>
      State.keepsTimeline_foldl _ (fun t k => t.keepsTimeline_fill r.report k) _ u
    refine State.KeepsTimeline.trans (t := s.withStore { s.store with reports := rest }) (.of_same rfl) ?_
    unfold State.storeReport
    dsimp only
    split
    · exact (hfill _).trans (State.keepsTimeline_pageTurn _ r.report)
    · exact hfill _

theorem State.keepsTimeline_discard (s : State) (p : Port) (q : Request) : s.KeepsTimeline (s.discard p q).state := by
  unfold State.discard
  split
  · exact .refl s
  · split
    · split
      · exact .of_same rfl
      · exact .refl s
    · split
      · unfold State.discardStored
        split
        · exact .refl s
        · split
          · exact .after (State.keepsTimeline_offer _ _) rfl
          · exact .after (State.keepsTimeline_offer _ _) rfl
      · exact .refl s
    · exact .refl s

/-! ### The view unit and the presence lines (R78, R184) -/

/-- The commit offers its entries one after the other (R78, R153). -/
theorem State.keepsTimeline_commitAndBegin (s : State) : s.KeepsTimeline s.commitAndBegin := by
  have hcommit : s.KeepsTimeline s.commit := .after (State.keepsTimeline_foldl _ State.keepsTimeline_offer _ _) rfl
  exact hcommit.before (by simp [State.commitAndBegin, State.chronicle])

theorem State.keepsTimeline_lose (s : State) (p : Port) : s.KeepsTimeline (s.lose p) := by
  have hreset : s.KeepsTimeline ((s.setPort p { s.port p with present := false, write := none }).portReset p none) :=
    .after (State.keepsTimeline_portReset _ p none) rfl
  unfold State.lose
  dsimp only
  split
  · exact hreset.trans (State.keepsTimeline_halt _ _)
  · exact hreset

end Sys2Proof.Machine

/-! SUPPORT. Timeline kept: the requests and events that leave the timeline and the lesson record, every command and every step. -/
namespace Sys2Proof.Machine

open Sys2Proof.Statements

/-! ### Requests that leave the timeline and the lesson record -/

theorem State.chronicle_setSource (s : State) (p : Port) (q : Request) : (s.setSource p q).state.chronicle = s.chronicle := by
  unfold State.setSource State.sourcePage
  split
  · rfl
  · rfl
  all_goals
    split
    · rfl
    · split <;> rfl

theorem State.chronicle_freeze (s : State) (p : Port) : (s.freeze p).state.chronicle = s.chronicle := by
  unfold State.freeze
  split
  · rfl
  · split <;> rfl

theorem State.chronicle_unfreeze (s : State) (p : Port) : (s.unfreeze p).state.chronicle = s.chronicle := by
  unfold State.unfreeze
  split <;> simp [Answer.ok, State.chronicle]

theorem State.chronicle_setClarity (s : State) (q : Request) : (s.setClarity q).state.chronicle = s.chronicle := by
  unfold State.setClarity
  split <;> rfl

theorem State.chronicle_setExposure (s : State) (q : Request) : (s.setExposure q).state.chronicle = s.chronicle := by
  unfold State.setExposure
  split <;> rfl

theorem State.chronicle_setLamp (s : State) (q : Request) : (s.setLamp q).state.chronicle = s.chronicle := by
  unfold State.setLamp
  split
  · rfl
  · dsimp only
    split <;> rfl

theorem State.chronicle_setOutputMode (s : State) (q : Request) : (s.setOutputMode q).state.chronicle = s.chronicle := by
  unfold State.setOutputMode
  split
  · rfl
  · split
    · rfl
    · split <;> rfl

theorem State.chronicle_setLabel (s : State) (q : Request) : (s.setLabel q).state.chronicle = s.chronicle := by
  unfold State.setLabel
  dsimp only
  split
  · rfl
  · split
    · rfl
    · split
      · split <;> rfl
      · split <;> rfl
      · rfl

theorem State.chronicle_exportPage (s : State) (p : Port) (q : Request) : (s.exportPage p q).state.chronicle = s.chronicle := by
  unfold State.exportPage State.startExport
  split
  · split
    · rfl
    · split
      · rfl
      · split <;> rfl
  · rfl

theorem State.chronicle_exportStop (s : State) (q : Request) : (s.exportStop q).state.chronicle = s.chronicle := by
  unfold State.exportStop
  split
  · rfl
  · unfold State.stopChannel
    split
    · split
      · rfl
      · simp [State.stopAnswer, Answer.ok, State.chronicle]
    all_goals rfl

theorem State.chronicle_exportContinue (s : State) (q : Request) : (s.exportContinue q).state.chronicle = s.chronicle := by
  unfold State.exportContinue State.continueChannel
  split
  · rfl
  · split
    · split <;> rfl
    · split <;> rfl
    · rfl

theorem State.chronicle_exportResume (s : State) : s.exportResume.state.chronicle = s.chronicle := by
  unfold State.exportResume
  split
  · split <;> rfl
  · rfl

/-! ### Events of the sensor link -/

theorem State.chronicle_writeLine {s t : State} {y : Nat} {bytes : List Byte} {after : Intake}
    (h : s.writeLine y bytes after = .next t) : t.chronicle = s.chronicle := by
  unfold State.writeLine at h
  split at h
  · cases h; rfl
  · split at h <;> cases h
    rfl

theorem State.chronicle_sensorLineEnd {s t : State} (h : execSensorLineEnd s = .next t) : t.chronicle = s.chronicle := by
  unfold execSensorLineEnd at h
  split at h
  · cases h; rfl
  · split at h
    · split at h
      · cases h; rfl
      · exact State.chronicle_writeLine h
    · cases h; rfl

theorem State.chronicle_sensorFrameEnd {s t : State} (h : execSensorFrameEnd s = .next t) : t.chronicle = s.chronicle := by
  unfold execSensorFrameEnd at h
  split at h
  · cases h; rfl
  · split at h
    · exact State.chronicle_writeLine h
    · cases h; rfl

/-! ### Every command -/

/-- Every command that answers a next state keeps the timeline in order, where the lesson clock is in range. -/
theorem exec_keepsTimeline {i : Instr} {s t : State} (hl : s.lesson.InRange) (h : exec i s = .next t) : s.KeepsTimeline t := by
  cases i with
  | partReset sense panel desk recorder => cases h; exact fun _ => .of_empty _ rfl (Nat.zero_le _)
  | requestWrite p part | fetch p part | presenceRestored p => cases h; exact .of_same rfl
  | unknownRequestCode p =>
    cases h
    split
    · exact .refl s
    · split
      · exact .refl s
      · exact .of_same rfl
  | presenceLost p => exact State.keepsTimeline_ite h (s.keepsTimeline_lose p)
  | partRead p part =>
    cases part with
    | ask block => cases h; exact .of_same (by simp [State.chronicle])
    | rest => exact keepsTimeline_serveOpen h fun _ => .of_same rfl
  | setParam p => exact keepsTimeline_serveOpen h fun q => s.keepsTimeline_setParam p q
  | getParam p => exact keepsTimeline_serveOpen h fun q => .of_same (by rw [State.getParam_state])
  | portReset p => exact keepsTimeline_serveOpen h fun _ => s.keepsTimeline_portReset p _
  | claimView p => exact keepsTimeline_serveOpen h fun q => s.keepsTimeline_claim p q
  | releaseView p => exact keepsTimeline_serveOpen h fun _ => s.keepsTimeline_release p
  | withdrawClaim p => exact keepsTimeline_serveOpen h fun _ => .of_same rfl
  | tenancyRead p | viewRead p | pictureRead p | feedRead p | lessonRead p | exportRead p =>
    exact keepsTimeline_serveOpen h fun _ => .refl s
  | idleYield => exact State.keepsTimeline_ite h s.keepsTimeline_tenancyTick
  | zoomTo p | zoomBy p | panTo p | panBy p | blank p | unblank p => exact keepsTimeline_serveGated h fun _ _ => rfl
  | setSource p => exact keepsTimeline_serveGated h fun q u => u.chronicle_setSource p q
  | freeze p => exact keepsTimeline_serveGated h fun _ u => u.chronicle_freeze p
  | unfreeze p => exact keepsTimeline_serveGated h fun _ u => u.chronicle_unfreeze p
  | setClarity p => exact keepsTimeline_serveGated h fun q u => u.chronicle_setClarity q
  | setExposure p => exact keepsTimeline_serveGated h fun q u => u.chronicle_setExposure q
  | setLamp p => exact keepsTimeline_serveGated h fun q u => u.chronicle_setLamp q
  | setOutputMode p => exact keepsTimeline_serveGated h fun q u => u.chronicle_setOutputMode q
  | captureNow p | captureNext p => cases h; exact s.keepsTimeline_serve p _ _ fun q => s.keepsTimeline_capture p q
  | discard p => exact keepsTimeline_serveOpen h fun q => s.keepsTimeline_discard p q
  | label p => exact keepsTimeline_serveOpen h fun q => .of_same (s.chronicle_setLabel q)
  | pageRead p => exact keepsTimeline_serveOpen h fun q => .of_same (by rw [State.pageRead_state])
  | thumbRead p => exact keepsTimeline_serveOpen h fun q => .of_same (by rw [State.thumbRead_state])
  | lessonStart p => exact keepsTimeline_serveOpen h fun _ => s.keepsTimeline_lessonStart p
  | lessonPause p => cases h; exact s.keepsTimeline_meetPause (some p)
  | lessonResume p => exact keepsTimeline_serveOpen h fun _ => s.keepsTimeline_lessonResume p
  | lessonEnd p => exact keepsTimeline_serveOpen h fun _ => s.keepsTimeline_lessonEnd p
  | lessonClear p => exact keepsTimeline_serveOpen h fun _ => s.keepsTimeline_lessonClear
  | exportPage p => exact keepsTimeline_serveOpen h fun q => .of_same (s.chronicle_exportPage p q)
  | exportStop p => exact keepsTimeline_serveOpen h fun q => .of_same (s.chronicle_exportStop q)
  | exportContinue p => exact keepsTimeline_serveOpen h fun q => .of_same (s.chronicle_exportContinue q)
  | exportResume p => exact keepsTimeline_serveOpen h fun _ => .of_same s.chronicle_exportResume
  | sensorFrameStart elapsed => cases h; exact .of_same (by simp [State.chronicle])
  | sensorLineStart | sensorPixelPair pair =>
    cases h
    split
    · exact .refl s
    · exact .of_same rfl
  | sensorLineEnd => exact .of_same (State.chronicle_sensorLineEnd h)
  | sensorFrameEnd => exact .of_same (State.chronicle_sensorFrameEnd h)
  | frameCompletion =>
    cases h
    split
    · exact .of_same (by simp [State.chronicle])
    · exact .refl s
  | intakeWriteFault buffer => exact State.keepsTimeline_ite h (.of_same rfl)
  | stallEvent => exact State.keepsTimeline_ite h (.of_same (by simp [State.chronicle]))
  | lightFrameReport => cases h; exact .of_same (by simp [State.chronicle])
  | autoLampStep => exact State.keepsTimeline_ite h (.of_same (by simp [State.chronicle]))
  | motionFrameReport => cases h; exact .of_same (by simp [State.chronicle])
  | detectorFire => exact State.keepsTimeline_ite h (.of_same (by simp [State.chronicle]))
  | pageStoreFrameReport => cases h; exact s.keepsTimeline_storeNextReport
  | outputFrameStart => cases h; exact s.keepsTimeline_commitAndBegin.before (by simp [State.chronicle])
  | feedStarted => exact State.keepsTimeline_ite h s.keepsTimeline_commitAndBegin
  | sensePresent =>
    cases h
    split
    · exact .refl s
    · exact .of_same rfl
  | senseAbsent => exact State.keepsTimeline_ite h (.of_same rfl)
  | feedReadFault area buffer line pair =>
    cases h
    split
    · split
      · exact .of_same rfl
      · exact .refl s
    · exact .refl s
  | millisecondTick pause =>
    cases h
    have hlesson : s.tenancyTick.lesson.InRange := by simpa using hl
    exact ((s.keepsTimeline_tenancyTick.trans (State.keepsTimeline_clockTick hlesson pause)).trans
      (State.keepsTimeline_timelineTick _)).trans (State.keepsTimeline_linkTick _)
  | clockCentisecond pause => exact State.keepsTimeline_ite h (State.keepsTimeline_clockTick hl pause)
  | timedCaptureExpiry pause => exact State.keepsTimeline_ite h (s.keepsTimeline_lessonSecond pause)
  | lampPulseStart => cases h; exact .of_same rfl
  | lampOnTimeEnd => exact State.keepsTimeline_ite h (.of_same rfl)
  | exportPull part =>
    cases part with
    | opening => exact State.keepsTimeline_openTransfer h
    | clock count => cases h; exact s.keepsTimeline_clockTransfer count
    | closing => cases h; exact s.keepsTimeline_closeTransfer
  | exportDeliveryCompleted => cases h; exact s.keepsTimeline_lastByte
  | exportDeliveryTimeout => exact State.keepsTimeline_ite h s.keepsTimeline_linkTick
  | exportLinkError => cases h; exact s.keepsTimeline_halt _
  | exportMemoryFault channel buffer => exact State.keepsTimeline_ite h (s.keepsTimeline_halt _)

/-- Every step of the part keeps the timeline in order, where the lesson clock is in range. -/
theorem step_keepsTimeline {s t : State} (hl : s.lesson.InRange) (h : step s = .next t) : s.KeepsTimeline t := by
  unfold step at h
  split at h
  · cases h; exact .of_same (by simp [State.chronicle])
  · next c rest _ => exact .after (exec_keepsTimeline (s := s.withPending rest) hl h) rfl

/-- Settles O8: an entry comes in with the next number at the present time, the oldest leave first, and a clock in range does not
fall while the list holds entries. -/
theorem timelineStaysOrdered : Obligations.TimelineStaysOrdered := fun s t hs hclock _ h =>
  t.timelineOk_iff.2 (step_keepsTimeline (s.clockOk_iff.1 hclock) h (s.timelineOk_iff.1 hs))

end Sys2Proof.Machine

/-! SUPPORT. Page exports: the scope and mode arguments, the channel record that a page starts, and the answers of EXPORT_PAGE in the
order of its cases. -/
namespace Sys2Proof.Statements

open Sys2Proof.Machine

/-! ### The scope and the mode (R171, R192) -/

theorem scope_ofCode_none {sc : Byte} (h : 1 < sc) : Scope.ofCode sc.toNat = none := by
  have hn : 1 < sc.toNat := by simpa [BitVec.lt_def] using h
  obtain ⟨i, hi⟩ := Nat.exists_eq_add_of_le' hn
  rw [hi]
  rfl

theorem scope_ofCode_some {sc : Byte} {scope : Scope} (h : (sc = 0 ∧ scope = .full) ∨ (sc = 1 ∧ scope = .window)) :
    Scope.ofCode sc.toNat = some scope := by
  rcases h with ⟨rfl, rfl⟩ | ⟨rfl, rfl⟩ <;> rfl

/-- The byte that names a scope is the scope's code. -/
theorem byte1_of_scope {sc : Byte} {scope : Scope} (h : (sc = 0 ∧ scope = .full) ∨ (sc = 1 ∧ scope = .window)) :
    byte1 scope.code = sc := by
  rcases h with ⟨rfl, rfl⟩ | ⟨rfl, rfl⟩ <;> rfl

theorem exportMode_ofCode_none {mo : Byte} (h : 1 < mo) : ExportMode.ofCode mo.toNat = none := by
  have hn : 1 < mo.toNat := by simpa [BitVec.lt_def] using h
  obtain ⟨i, hi⟩ := Nat.exists_eq_add_of_le' hn
  rw [hi]
  rfl

theorem exportMode_ofCode_some {mo : Byte} {mode : ExportMode} (h : (mo = 0 ∧ mode = .burst) ∨ (mo = 1 ∧ mode = .interleaved)) :
    ExportMode.ofCode mo.toNat = some mode := by
  rcases h with ⟨rfl, rfl⟩ | ⟨rfl, rfl⟩ <;> rfl

/-! ### The channel's phase (R168) -/

theorem pinning_eq_some {x : Chan} {d : ChanData} (h : x = .used .active d ∨ x = .used .stopping d) : x.pinning? = some d := by
  rcases h with rfl | rfl <;> rfl

theorem pinning_eq_none {x : Chan} (h : ∀ d, x ≠ .used .active d ∧ x ≠ .used .stopping d) : x.pinning? = none := by
  unfold Chan.pinning?
  split
  · next d => exact absurd rfl (h d).1
  · next d => exact absurd rfl (h d).2
  · rfl

/-! ### The record a page starts (R169, R170) -/

section
variable {j : SlotId} {tag : PageTag} {data : PageData} {scope : Scope} {width height blocks : Nat}

/-- The size of the picture a scope carries, and the data blocks of its stream (R169, R170). -/
def StreamSize (data : PageData) (scope : Scope) (width height blocks : Nat) : Prop :=
  (scope = .full ∧ width = 3840 ∧ height = 2880 ∧ blocks = 2700) ∨
    (scope = .window ∧ width = data.w ∧ height = data.h ∧ blocks = (data.w * data.h * 2 + 8191) / 8192)

theorem StreamSize.dataBlocks_eq (h : StreamSize data scope width height blocks) : dataBlocks scope data.w data.h = blocks := by
  rcases h with ⟨rfl, -, -, rfl⟩ | ⟨rfl, -, -, rfl⟩
  · simp [dataBlocks, streamLength, Config.blockSize, Config.bufferSize]
  · exact congrArg (· / 8192) (Nat.add_comm 8191 (data.w * data.h * 2))

/-- The page header, with the size of the picture and the lesson's bytes named. -/
theorem pageHeader_eq {lesson : List Byte} (h : StreamSize data scope width height blocks)
    (hlesson : lesson = match data.lesson with
      | some l => [1] ++ be16 l.number ++ be32 l.time
      | none => [0, 0, 0, 0, 0, 0, 0]) :
    pageHeader j tag data scope =
      be16 tag.serial ++ [byte1 j.val, byte1 tag.origin.code, byte1 tag.trigger.code] ++ lesson
        ++ be16 data.zoom ++ be16 data.x0 ++ be16 data.y0 ++ be16 data.w ++ be16 data.h
        ++ [byte1 data.gain, byte1 data.core, byte1 data.exposure, byte1 data.lamp, byte1 scope.code] ++ be16 width
        ++ be16 height ++ be32 blocks ++ [byte1 tag.label.length] ++ tag.label ++ data.thumb := by
  have hblocks := h.dataBlocks_eq
  subst hlesson
  rcases h with ⟨rfl, rfl, rfl, -⟩ | ⟨rfl, rfl, rfl, -⟩ <;>
    · simp only [pageHeader, hblocks]
      cases data.lesson <;> rfl

end

/-! ### EXPORT_PAGE (R171) -/

section
variable {s : State} {p : Port} {q : Request} {c : Channel} {scope : Scope} {mode : ExportMode} {slot : Byte} {j : SlotId} {n : Nat}

theorem exportPage_refused (h : channelOfCode (argByte q.args 0) = none ∨ Scope.ofCode (argByte q.args 4) = none ∨
      ExportMode.ofCode (argByte q.args 5) = none) : s.exportPage p q = .plain s .badArgument := by
  unfold State.exportPage
  split
  · next hc hs hm => simp [hc, hs, hm] at h
  · rfl

theorem exportPage_busy {d : ChanData} (hc : channelOfCode (argByte q.args 0) = some c)
    (hs : Scope.ofCode (argByte q.args 4) = some scope) (hm : ExportMode.ofCode (argByte q.args 5) = some mode)
    (h : s.link.chan c = .used .active d ∨ s.link.chan c = .used .stopping d) : s.exportPage p q = .plain s .busy := by
  simp only [State.exportPage, hc, hs, hm, pinning_eq_some h]

/-- A channel that pins no buffer goes on to the page store. -/
theorem exportPage_start (hc : channelOfCode (argByte q.args 0) = some c)
    (hs : Scope.ofCode (argByte q.args 4) = some scope) (hm : ExportMode.ofCode (argByte q.args 5) = some mode)
    (h : ∀ d, s.link.chan c ≠ .used .active d ∧ s.link.chan c ≠ .used .stopping d) :
    s.exportPage p q = s.startExport p c scope mode (argByte q.args 1) (argU16 q.args 2) := by
  simp only [State.exportPage, hc, hs, hm, pinning_eq_none h]

theorem startExport_noSlot (h : 20 ≤ slot) : s.startExport p c scope mode slot.toNat n = .plain s .noPage := by
  simp only [State.startExport, slotOf_eq_none h]

theorem startExport_notStored (hj : slot.toNat = j.val)
    (h : ∀ (tag : PageTag) (data : PageData), s.store.page j = .stored tag data → tag.serial ≠ n) :
    s.startExport p c scope mode slot.toNat n = .plain s .noPage := by
  simp only [State.startExport, slotOf_eq_some hj, storedWith_eq_none h]

theorem startExport_stored {tag : PageTag} {data : PageData} (hj : slot.toNat = j.val) (h : s.store.page j = .stored tag data) :
    s.startExport p c scope mode slot.toNat tag.serial =
      .ok ((s.setChan c (.used .active (startedChan j tag data scope mode p))).pin data.buffer)
        (be32 (dataBlocks scope data.w data.h + 1)) := by
  simp only [State.startExport, slotOf_eq_some hj, storedWith_eq_some h]
  rfl

end

/-- Settles O58, case by case in the order of the table: the arguments, the channel's phase, the slot and its record, and the page
started. -/
theorem exportPageStartsAChannel : Obligations.ExportPageStartsAChannel := by
  intro s p k q ch slot a b sc mo serial hq hserial
  have hexec : ∀ {x : Answer}, s.exportPage p q = x → exec (.exportPage p) s = .next (x.state.reply p k q x.status x.results) :=
    serveOpen_answer (fun q s => s.exportPage p q) hq rfl rfl
  have hch : argByte q.args 0 = ch.toNat := by rw [hq.args_eq]; rfl
  have hslot : argByte q.args 1 = slot.toNat := by rw [hq.args_eq]; rfl
  have hnum : argU16 q.args 2 = serial := by rw [hq.args_eq, hserial]; rfl
  have hsc : argByte q.args 4 = sc.toNat := by rw [hq.args_eq]; rfl
  have hmo : argByte q.args 5 = mo.toNat := by rw [hq.args_eq]; rfl
  refine ⟨fun h => hexec (x := .plain s .badArgument) (exportPage_refused ?_), fun c scope mode hc hs hm => ?_⟩
  · rw [hch, hsc, hmo]
    exact h.imp channelOfCode_none (Or.imp scope_ofCode_none exportMode_ofCode_none)
  have hchannel : channelOfCode (argByte q.args 0) = some c := by rw [hch, channelOfCode_some hc]
  have hscope : Scope.ofCode (argByte q.args 4) = some scope := by rw [hsc, scope_ofCode_some hs]
  have hmode : ExportMode.ofCode (argByte q.args 5) = some mode := by rw [hmo, exportMode_ofCode_some hm]
  refine ⟨fun d hd => hexec (exportPage_busy hchannel hscope hmode hd), fun hfree => ?_⟩
  have hstart : s.exportPage p q = s.startExport p c scope mode slot.toNat serial := by
    rw [exportPage_start hchannel hscope hmode hfree, hslot, hnum]
  refine ⟨fun h20 => hexec (hstart.trans (startExport_noSlot h20)), fun j hj =>
    ⟨fun hno => hexec (hstart.trans (startExport_notStored hj hno)), ?_⟩⟩
  intro tag data x width height blocks lesson hp ht hsize hlesson hx
  subst ht
  have hblocks : dataBlocks scope data.w data.h = blocks := StreamSize.dataBlocks_eq hsize
  have hstarted : startedChan j tag data scope mode p = x := by
    rw [hx, startedChan, hblocks, pageHeader_eq hsize hlesson, byte1_of_slot hj, byte1_of_scope hs]
  have hok := hexec (hstart.trans (startExport_stored hj hp))
  rw [hstarted, hblocks] at hok
  exact hok

end Sys2Proof.Statements

/-! SUPPORT. Port records: the slots after a slot is written, the request handed on and the item chosen, transactions clocked in parts,
and what a port does with a message and with a notice. -/
namespace Sys2Proof.Machine

/-! ### Slots (R179) -/

/-- The slots once one of them is written. -/
theorem slots_set (slots : Vector Slot 4) (k j : Fin 4) (x : Slot) : (slots.set k x)[j] = if j = k then x else slots[j] := by
  by_cases h : j = k
  · subst h
    rw [if_pos rfl]
    exact Vector.getElem_set_self ..
  · rw [if_neg h]
    exact Vector.getElem_set_ne k.isLt j.isLt fun he => h (Fin.ext he.symm)

theorem Slot.executing?_eq_some {x : Slot} {q : Request} : x.executing? = some q ↔ x = .executing q := by
  cases x <;> simp [Slot.executing?]

theorem Slot.waiting?_eq_some {x : Slot} {q : Request} : x.waiting? = some q ↔ x = .waiting q := by
  cases x <;> simp [Slot.waiting?]

theorem Slot.isExecuting_eq {x : Slot} : x.isExecuting = x.executing?.isSome := by cases x <;> rfl

theorem Slot.isFree_iff {x : Slot} : x.isFree = true ↔ x = .free := by cases x <;> simp [Slot.isFree]

/-! ### The lowest-numbered FREE slot (R180) -/

theorem PortRec.freeSlot_eq_some {r : PortRec} {k : Fin 4} (hk : r.slots[k] = .free)
    (hlow : ∀ j : Fin 4, j < k → r.slots[j] ≠ .free) : r.freeSlot = some k := by
  unfold PortRec.freeSlot
  rw [List.find?_eq_some_iff_getElem]
  refine ⟨Slot.isFree_iff.2 hk, k.val, by simp, by simp, fun j hj => ?_⟩
  simpa [← Slot.isFree_iff] using hlow ⟨j, by omega⟩ hj

theorem PortRec.freeSlot_eq_none {r : PortRec} (h : ∀ k : Fin 4, r.slots[k] ≠ .free) : r.freeSlot = none :=
  List.find?_eq_none.2 fun k _ hk => h k (Slot.isFree_iff.1 hk)

theorem PortRec.isFree_of_freeSlot {r : PortRec} {k : Fin 4} (h : r.freeSlot = some k) : (r.slots[k]).isFree = true :=
  List.find?_some (p := fun k : Fin 4 => (r.slots[k]).isFree) h

/-! ### Requests received (R180, R191) -/

section
variable {r : PortRec} {q : Request}

theorem PortRec.accept_absent (h : r.present = false) : r.accept q = (r, .queueFull) := if_pos h

theorem PortRec.accept_badLength (h : r.present = true) (hlen : 28 < q.args.length) : r.accept q = (r, .badLength) := by
  simp [PortRec.accept, h, hlen]

theorem PortRec.accept_full (hlen : q.args.length ≤ 28) (h : r.freeSlot = none) : r.accept q = (r, .queueFull) := by
  simp [PortRec.accept, Nat.not_lt.2 hlen, h]

theorem PortRec.accept_taken {k : Fin 4} (hp : r.present = true) (hlen : q.args.length ≤ 28) (h : r.freeSlot = some k) :
    r.accept q = ({ r with slots := r.slots.set k (.waiting q), order := r.order ++ [k] }, .accepted) := by
  simp [PortRec.accept, hp, Nat.not_lt.2 hlen, h]

/-- A port takes a request into a FREE slot while it is present, or it stays as it is. -/
theorem PortRec.accept_cases (r : PortRec) (q : Request) :
    (r.accept q).1 = r ∨ ∃ k, r.present = true ∧ r.freeSlot = some k ∧
      (r.accept q).1 = { r with slots := r.slots.set k (.waiting q), order := r.order ++ [k] } := by
  by_cases hp : r.present = true
  · by_cases hlen : 28 < q.args.length
    · exact .inl (by rw [PortRec.accept_badLength hp hlen])
    · cases hfree : r.freeSlot with
      | none => exact .inl (by rw [PortRec.accept_full (Nat.not_lt.1 hlen) hfree])
      | some k => exact .inr ⟨k, hp, rfl, by rw [PortRec.accept_taken hp (Nat.not_lt.1 hlen) hfree]⟩
  · exact .inl (by rw [PortRec.accept_absent (Bool.eq_false_iff.2 hp)])

/-- Whether and how a port takes a request does not depend on the message in progress. -/
theorem PortRec.accept_withWrite (r : PortRec) (q : Request) (w : Option Writing) :
    PortRec.accept { r with write := w } q = ({ (r.accept q).1 with write := w }, (r.accept q).2) := by
  unfold PortRec.accept
  dsimp only [PortRec.freeSlot]
  split
  · rfl
  · split
    · rfl
    · split <;> rfl

end

/-- A message that ends before its last argument byte. -/
theorem parseRequest_short {tag code n : Byte} {args short : List Byte} (hpre : short <+: tag :: code :: n :: args)
    (h : short.length < 3 + n.toNat) : parseRequest short = none := by
  obtain ⟨rest, hrest⟩ := hpre
  match short with
  | [] | [_] | [_, _] => rfl
  | a :: b :: c :: m =>
    simp only [List.cons_append, List.cons.injEq] at hrest
    obtain ⟨-, -, rfl, -⟩ := hrest
    simp only [List.length_cons] at h
    simp only [parseRequest, if_neg (show ¬ c.toNat ≤ m.length by omega)]

/-- Once a message is complete, more bytes only add to those clocked after it. -/
theorem parseRequest_append {m : List Byte} {q : Request} {clocked : Nat} (h : parseRequest m = some (q, clocked)) (more : List Byte) :
    parseRequest (m ++ more) = some (q, clocked + more.length) := by
  match m with
  | [] | [_] | [_, _] => cases h
  | tag :: code :: n :: rest =>
    simp only [parseRequest] at h
    split at h
    · next hle =>
      cases h
      simp only [List.cons_append, parseRequest, List.length_append, if_pos (Nat.le_add_right_of_le hle), List.take_append_of_le_length hle]
      rw [Nat.sub_add_comm hle]
    · cases h

/-! ### The acceptance byte and the zeros after it (R180) -/

theorem acceptanceBytes_take (status : Status) (m n : Nat) : (acceptanceBytes status (m + n)).take m = acceptanceBytes status m := by
  cases m with
  | zero => simp [acceptanceBytes]
  | succ m => simp [acceptanceBytes, Nat.succ_add]

theorem acceptanceBytes_length (status : Status) (n : Nat) : (acceptanceBytes status n).length = n := by
  cases n <;> simp [acceptanceBytes]

/-- The bytes driven after some of them have been clocked. -/
theorem acceptanceBytes_add (status : Status) (m n : Nat) :
    acceptanceBytes status m ++ (acceptanceBytes status (m + n)).drop m = acceptanceBytes status (m + n) := by
  rw [← acceptanceBytes_take status m n, List.take_append_drop]

/-- The bytes driven for two runs of clocks, after `c` bytes clocked before them. -/
theorem acceptanceBytes_drop_add (status : Status) (c m n : Nat) :
    (acceptanceBytes status (c + m)).drop c ++ (acceptanceBytes status (c + m + n)).drop (c + m) =
      (acceptanceBytes status (c + m + n)).drop c := by
  have hle : c ≤ (acceptanceBytes status (c + m)).length := by rw [acceptanceBytes_length]; omega
  exact (List.drop_append_of_le_length hle).symm.trans (congrArg (List.drop c) (acceptanceBytes_add status (c + m) n))

/-! ### Bytes clocked in parts (R180, R182, R191; log 10) -/

section
variable {f : Fetch} {m : Nat}

theorem Fetch.after_finished (h : f.finishes m = true) :
    f.after m = { f with sent := f.sent + m, live := false, taken := decide (f.item ≠ .none) } := if_pos h

theorem Fetch.after_unfinished (h : f.finishes m = false) : f.after m = { f with sent := f.sent + m } := by
  simp [Fetch.after, h]

theorem Fetch.after_keeps (f : Fetch) (m : Nat) :
    (f.after m).item = f.item ∧ (f.after m).dropped = f.dropped ∧ (f.after m).image = f.image ∧ (f.after m).sent = f.sent + m := by
  unfold Fetch.after
  split <;> exact ⟨rfl, rfl, rfl, rfl⟩

theorem Fetch.drive_add (f : Fetch) (m n : Nat) : f.drive m ++ (f.after m).drive n = f.drive (m + n) := by
  obtain ⟨-, -, himage, hsent⟩ := f.after_keeps m
  simp only [Fetch.drive, himage, hsent, ← List.drop_drop]
  generalize hrest : f.image.drop f.sent = rest
  have hlen : f.image.length - f.sent = rest.length := by rw [← hrest, List.length_drop]
  rw [Nat.sub_add_eq, hlen]
  rcases Nat.le_total rest.length m with h | h
  · rw [List.take_of_length_le h, List.take_of_length_le (i := m + n) (by omega), List.drop_of_length_le h, List.take_nil,
      List.nil_append, List.append_assoc, List.replicate_append_replicate]
    congr 2
    omega
  · rw [Nat.sub_eq_zero_of_le h, List.replicate_zero, List.append_nil, ← List.append_assoc, ← List.take_add]
    congr 2
    omega

/-- The item is removed by the clocks of one part alone. -/
theorem Fetch.finishes_after_finished (h : f.finishes m = true) (n : Nat) :
    (f.after m).finishes n = false ∧ f.finishes (m + n) = true := by
  refine ⟨by rw [Fetch.after_finished h]; rfl, ?_⟩
  simp only [Fetch.finishes, Bool.and_eq_true, decide_eq_true_eq] at h ⊢
  obtain ⟨hlive, hlast⟩ := h
  exact ⟨hlive, by omega⟩

theorem Fetch.finishes_after_unfinished (h : f.finishes m = false) (n : Nat) : (f.after m).finishes n = f.finishes (m + n) := by
  rw [Fetch.after_unfinished h]
  simp only [Fetch.finishes, Nat.add_assoc]

theorem Fetch.after_after (f : Fetch) (m n : Nat) : (f.after m).after n = f.after (m + n) := by
  cases h : f.finishes m with
  | true =>
    obtain ⟨hdone, hboth⟩ := Fetch.finishes_after_finished h n
    rw [Fetch.after_unfinished hdone, Fetch.after_finished h, Fetch.after_finished hboth, Nat.add_assoc]
  | false =>
    have hsame := Fetch.finishes_after_unfinished h n
    cases hboth : f.finishes (m + n) with
    | true => rw [Fetch.after_finished (hsame.trans hboth), Fetch.after_unfinished h, Fetch.after_finished hboth, Nat.add_assoc]
    | false => rw [Fetch.after_unfinished (hsame.trans hboth), Fetch.after_unfinished h, Fetch.after_unfinished hboth, Nat.add_assoc]

end

/-- The port once the clocks have removed the item of a FETCH, where they do. -/
def PortRec.relieved (r : PortRec) (f : Fetch) (count : Nat) : PortRec :=
  if f.finishes count then r.removeItem f.item f.dropped else r

theorem PortRec.drive_fetch {r : PortRec} {f : Fetch} (h : r.fetch = some f) (n : Nat) :
    r.drive n = { r.relieved f n with driven := r.driven ++ f.drive n, fetch := some (f.after n) } := by
  simp only [PortRec.drive, h]
  rfl

theorem PortRec.drive_idle {r : PortRec} (h : r.fetch = none) (n : Nat) :
    r.drive n = { r with driven := r.driven ++ List.replicate n 0 } := by
  simp only [PortRec.drive, h]

/-- What is removed does not depend on the bytes driven. -/
theorem PortRec.removeItem_transaction (r : PortRec) (item : FetchItem) (dropped : Bool) (driven : List Byte) (fetch : Option Fetch) :
    PortRec.removeItem { r with driven := driven, fetch := fetch } item dropped =
      { r.removeItem item dropped with driven := driven, fetch := fetch } := by
  cases item <;> rfl

/-- Two runs of clocks remove what one run of all of them removes. -/
theorem PortRec.relieved_relieved (r : PortRec) (f : Fetch) (m n : Nat) (driven : List Byte) (fetch : Option Fetch) :
    PortRec.relieved { r.relieved f m with driven := driven, fetch := fetch } (f.after m) n =
      { r.relieved f (m + n) with driven := driven, fetch := fetch } := by
  obtain ⟨hitem, hdropped, -⟩ := f.after_keeps m
  unfold PortRec.relieved
  cases h : f.finishes m with
  | true =>
    obtain ⟨hdone, hboth⟩ := Fetch.finishes_after_finished h n
    rw [hdone, hboth]
    rfl
  | false =>
    rw [Fetch.finishes_after_unfinished h n]
    cases f.finishes (m + n) with
    | true => simp only [if_true, Bool.false_eq_true, if_false, hitem, hdropped, PortRec.removeItem_transaction]
    | false => rfl

theorem PortRec.drive_drive (r : PortRec) (m n : Nat) : (r.drive m).drive n = r.drive (m + n) := by
  cases h : r.fetch with
  | none =>
    rw [PortRec.drive_idle h, PortRec.drive_idle (by exact h), PortRec.drive_idle h]
    simp only [List.append_assoc, List.replicate_append_replicate]
  | some f =>
    rw [PortRec.drive_fetch h, PortRec.drive_fetch rfl, PortRec.drive_fetch h, PortRec.relieved_relieved]
    simp only [List.append_assoc, Fetch.drive_add, Fetch.after_after]

/-- A message received so far and the bytes after it come to the whole message. -/
theorem PortRec.clock_receive {r : PortRec} (h : r.fetch = none) (m bytes : List Byte) :
    (r.receive m).clock bytes = r.receive (m ++ bytes) := by
  cases hm : parseRequest m with
  | none =>
    rw [r.receive_short m hm, PortRec.clock_write { r with write := some (.message m) } bytes (.message m) h rfl, PortRec.writeBytes]
    cases hall : parseRequest (m ++ bytes) with
    | none => rw [r.receive_short _ hall, PortRec.receive_short _ _ hall]
    | some x =>
      obtain ⟨q, clocked⟩ := x
      rw [r.receive_whole _ q clocked hall, PortRec.receive_whole _ _ q clocked hall, PortRec.accept_withWrite]
  | some x =>
    obtain ⟨q, clocked⟩ := x
    have hkept : (r.accept q).1.fetch = none := by rw [r.accept_slots]; exact h
    rw [r.receive_whole m q clocked hm, r.receive_whole _ q _ (parseRequest_append hm bytes),
      PortRec.clock_write { (r.accept q).1 with
        write := some (.answered (r.accept q).2 clocked), driven := acceptanceBytes (r.accept q).2 clocked } bytes _ hkept rfl]
    simp only [PortRec.writeBytes, acceptanceBytes_add]

theorem PortRec.firstBytes_write (r : PortRec) (rest : List Byte) : r.firstBytes (1 :: rest) = r.receive rest := rfl

theorem PortRec.firstBytes_fetch (r : PortRec) (rest : List Byte) : r.firstBytes (2 :: rest) = r.openFetch.drive rest.length := rfl

theorem PortRec.firstBytes_other (r : PortRec) {first : Byte} (hw : first ≠ 1) (hf : first ≠ 2) (rest : List Byte) :
    r.firstBytes (first :: rest) = { r with write := some .ignored, driven := List.replicate rest.length 0 } := by
  simp only [PortRec.firstBytes, if_neg hw, if_neg hf]

/-- More clocks in a FETCH. -/
theorem PortRec.clock_drive {r : PortRec} {f : Fetch} (h : r.fetch = some f) (n : Nat) (bytes : List Byte) :
    (r.drive n).clock bytes = r.drive (n + bytes.length) := by
  rw [(r.drive n).clock_fetch bytes (f.after n) (by rw [PortRec.drive_fetch h]), PortRec.drive_drive]

/-- Two runs of bytes clocked in a transaction come to one run of all of them. -/
theorem PortRec.clock_clock (r : PortRec) (first second : List Byte) : (r.clock first).clock second = r.clock (first ++ second) := by
  cases hf : r.fetch with
  | some f => rw [r.clock_fetch first f hf, r.clock_fetch _ f hf, PortRec.clock_drive hf, List.length_append]
  | none =>
    cases hw : r.write with
    | none =>
      rw [r.clock_idle first hf hw, r.clock_idle _ hf hw,
        PortRec.clock_idle { r with driven := r.driven ++ List.replicate first.length 0 } second hf hw]
      simp only [List.append_assoc, List.replicate_append_replicate, List.length_append]
    | some w =>
      rw [r.clock_write first w hf hw, r.clock_write _ w hf hw]
      cases w with
      | opened =>
        cases first with
        | nil => exact r.clock_write second .opened hf hw
        | cons b rest =>
          simp only [PortRec.writeBytes, List.cons_append]
          by_cases h1 : b = 1
          · rw [h1, PortRec.firstBytes_write, PortRec.firstBytes_write, PortRec.clock_receive hf]
          · by_cases h2 : b = 2
            · rw [h2, PortRec.firstBytes_fetch, PortRec.firstBytes_fetch, PortRec.clock_drive rfl, List.length_append]
            · rw [r.firstBytes_other h1 h2, r.firstBytes_other h1 h2, PortRec.clock_write
                { r with write := some .ignored, driven := List.replicate rest.length 0 } second .ignored hf rfl]
              simp only [PortRec.writeBytes, List.replicate_append_replicate, List.length_append]
      | message sofar => rw [PortRec.writeBytes, PortRec.writeBytes, PortRec.clock_receive hf, List.append_assoc]
      | answered status clocked =>
        rw [PortRec.writeBytes, PortRec.clock_write { r with
          write := some (.answered status (clocked + first.length))
          driven := r.driven ++ (acceptanceBytes status (clocked + first.length)).drop clocked } second _ hf rfl]
        simp only [PortRec.writeBytes, List.append_assoc, ← Nat.add_assoc, acceptanceBytes_drop_add, List.length_append]
      | ignored =>
        rw [PortRec.writeBytes, PortRec.clock_write { r with driven := r.driven ++ List.replicate first.length 0 } second .ignored hf hw]
        simp only [PortRec.writeBytes, List.append_assoc, List.replicate_append_replicate, List.length_append]

/-! ### Whole transactions (R180, R182, R191) -/

/-- A WRITE with all its argument bytes leaves what the port makes of its request, and drives the acceptance byte and zeros. -/
theorem PortRec.transaction_write {r u : PortRec} {tag code n : Byte} {args : List Byte} {status : Status} (more : List Byte)
    (h : args.length = n.toNat) (hu : r.select.accept { tag := tag, code := code, args := args } = (u, status)) :
    r.transaction (1 :: tag :: code :: n :: (args ++ more)) =
      { u with fetch := none, write := none, driven := acceptanceBytes status more.length } := by
  have hreceive := r.select.receive_whole _ _ _ (parseRequest_args tag code n args more h)
  rw [hu] at hreceive
  rw [PortRec.transaction, r.select.clock_write _ .opened rfl rfl, PortRec.writeBytes, PortRec.firstBytes_write, hreceive]
  rfl

/-- A WRITE that ends before its last argument byte is dropped. -/
theorem PortRec.transaction_short {r : PortRec} {m : List Byte} (h : parseRequest m = none) :
    r.transaction (1 :: m) = { r with fetch := none, write := none, driven := [] } := by
  rw [PortRec.transaction, r.select.clock_write _ .opened rfl rfl, PortRec.writeBytes, PortRec.firstBytes_write,
    PortRec.receive_short _ _ h]
  rfl

theorem PortRec.transaction_ignored (r : PortRec) {first : Byte} (hw : first ≠ 1) (hf : first ≠ 2) (rest : List Byte) :
    r.transaction (first :: rest) = { r with fetch := none, write := none, driven := List.replicate rest.length 0 } := by
  rw [PortRec.transaction, r.select.clock_write _ .opened rfl rfl, PortRec.writeBytes, PortRec.firstBytes_other _ hw hf]
  rfl

/-- A whole FETCH drives the chosen item and removes it where its last byte has been clocked. -/
theorem PortRec.wholeFetch_eq {r : PortRec} {item : FetchItem} {image : List Byte} (hitem : r.chooseItem = item)
    (himage : r.imageOf item = image) (n : Nat) :
    r.wholeFetch n = { (if image.length ≤ n then r.removeItem item false else r) with
      fetch := none, write := none, driven := image.take n ++ List.replicate (n - image.length) 0 } := by
  subst hitem himage
  rw [PortRec.wholeFetch, PortRec.drive_fetch rfl]
  by_cases h : (r.imageOf r.chooseItem).length ≤ n
  · simp only [PortRec.relieved, Fetch.finishes, PortRec.openFetch, Nat.zero_add, h, decide_true, Bool.and_self, if_true]
    cases r.chooseItem <;> rfl
  · simp only [PortRec.relieved, Fetch.finishes, PortRec.openFetch, Nat.zero_add, h, decide_false, Bool.and_false, if_false]
    rfl

theorem PortRec.relieved_finished {r : PortRec} {f : Fetch} {n : Nat} (h : f.finishes n = true) :
    r.relieved f n = r.removeItem f.item f.dropped := if_pos h

/-! ### The item chosen (R182) -/

theorem PortRec.imageOf_reply {r : PortRec} {k : Fin 4} {reply : Reply} (h : r.slots[k] = .replied reply) :
    r.imageOf (.reply k) = replyImage reply := by
  simp only [PortRec.imageOf, h]

theorem PortRec.imageOf_notice {r : PortRec} {x : Notice} {rest : List Notice} (h : r.notices = x :: rest) :
    r.imageOf .notice = noticeImage x r.lost := by
  simp only [PortRec.imageOf, h]

theorem PortRec.chooseItem_unreplied {r : PortRec} (h : ∀ j ∈ r.order, (r.slots[j]).isReplied = false) :
    r.chooseItem = if r.notices.isEmpty then .none else .notice := by
  have hnone : (r.order.find? fun k => (r.slots[k]).isReplied) = none :=
    List.find?_eq_none.2 fun j hj => Bool.eq_false_iff.1 (h j hj)
  simp only [PortRec.chooseItem, hnone]

theorem PortRec.chooseItem_notice {r : PortRec} {x : Notice} {rest : List Notice}
    (h : ∀ j ∈ r.order, (r.slots[j]).isReplied = false) (hx : r.notices = x :: rest) : r.chooseItem = .notice := by
  rw [PortRec.chooseItem_unreplied h, hx]
  rfl

/-! ### Notices (R183, R187) -/

theorem PortRec.take_masked {r : PortRec} {n : Notice} (h : n.masked r.mask = true) : r.take n = r := by
  simp [PortRec.take, h]

theorem PortRec.take_queued {r : PortRec} {n : Notice} (hp : r.present = true) (hm : n.masked r.mask = false)
    (h : r.notices.length < 16) : r.take n = { r with notices := r.notices ++ [n] } := by
  simp [PortRec.take, hp, hm, Config.noticeRoom, Nat.not_le.2 h]

theorem PortRec.take_full {r : PortRec} {n : Notice} (hp : r.present = true) (hm : n.masked r.mask = false)
    (h : 16 ≤ r.notices.length) :
    r.take n = { r with lost := true, fetch := r.fetch.map fun f => { f with dropped := true } } := by
  simp [PortRec.take, hp, hm, Config.noticeRoom, h]

/-- A notice is left out exactly where the mask bit of its class is clear. -/
theorem Notice.masked_iff (n : Notice) (mask : BitVec 5) :
    n.masked mask = true ↔ ∃ c, n.classBit = some c ∧ mask.getLsbD c = false := by
  unfold Notice.masked
  split
  · next b hb => simp [hb]
  · next hb => simp [hb]

/-! ### The events of a transaction as commands (log 10) -/

theorem exec_requestWrite (p : Port) (part : WritePart) (s : State) :
    exec (.requestWrite p part) s = .next (s.setPort p ((s.port p).writePart part)) := rfl

theorem exec_fetch (p : Port) (part : FetchPart) (s : State) :
    exec (.fetch p part) s = .next (s.setPort p ((s.port p).fetchPart part)) := rfl

/-! ### The request handed on, and the one after it (R181) -/

theorem PortRec.current_executing {r : PortRec} {x : Fin 4 × Request}
    (h : (r.order.findSome? fun k => (r.slots[k]).executing?.map fun q => (k, q)) = some x) : r.current = some x := by
  simp only [PortRec.current, h]

theorem PortRec.current_waiting {r : PortRec} {x : Option (Fin 4 × Request)} (hnone : ∀ j ∈ r.order, (r.slots[j]).isExecuting = false)
    (h : (r.order.findSome? fun k => (r.slots[k]).waiting?.map fun q => (k, q)) = x) : r.current = x := by
  have hidle : (r.order.findSome? fun k => (r.slots[k]).executing?.map fun q => (k, q)) = none := by
    refine List.findSome?_eq_none_iff.2 fun j hj => Option.map_eq_none_iff.2 ?_
    have hj := hnone j hj
    rw [Slot.isExecuting_eq] at hj
    simpa using hj
  simp only [PortRec.current, hidle, h]

/-- The request handed on stands in its slot, EXECUTING or WAITING. -/
theorem PortRec.slot_of_current {r : PortRec} {k : Fin 4} {q : Request} (h : r.current = some (k, q)) :
    r.slots[k] = .executing q ∨ r.slots[k] = .waiting q := by
  have hfound : ∀ f : Fin 4 → Option Request,
      (r.order.findSome? fun j => (f j).map fun q => (j, q)) = some (k, q) → f k = some q := by
    intro f hf
    obtain ⟨j, -, he⟩ := List.exists_of_findSome?_eq_some hf
    obtain ⟨x, hx, hpair⟩ := Option.map_eq_some_iff.1 he
    obtain ⟨rfl, rfl⟩ := Prod.mk.inj hpair
    exact hx
  unfold PortRec.current at h
  split at h
  · next x hx => exact .inl (Slot.executing?_eq_some.1 (hfound (fun j => (r.slots[j]).executing?) (hx.trans h)))
  · exact .inr (Slot.waiting?_eq_some.1 (hfound (fun j => (r.slots[j]).waiting?) h))

/-- While a slot is EXECUTING no other request is handed on. -/
theorem PortRec.handOn_executing {r : PortRec} (h : ∃ j : Fin 4, (r.slots[j]).isExecuting = true) : r.handOn = r := by
  obtain ⟨j, hj⟩ := h
  exact if_pos (List.any_eq_true.2 ⟨j, List.mem_finRange j, hj⟩)

theorem PortRec.handOn_waiting {r : PortRec} {j : Fin 4} {q : Request} (h : ∀ i : Fin 4, (r.slots[i]).isExecuting = false)
    (hj : (r.order.findSome? fun k => (r.slots[k]).waiting?.map fun q => (k, q)) = some (j, q)) :
    r.handOn = { r with slots := r.slots.set j (.executing q) } := by
  have hnone : ((List.finRange 4).any fun k => (r.slots[k]).isExecuting) = false :=
    List.any_eq_false.2 fun i _ => Bool.eq_false_iff.1 (h i)
  simp only [PortRec.handOn, hnone, Bool.false_eq_true, if_false, hj]

theorem PortRec.handOn_idle {r : PortRec} (h : ∀ j ∈ r.order, (r.slots[j]).waiting? = none) : r.handOn = r := by
  have hnone : (r.order.findSome? fun k => (r.slots[k]).waiting?.map fun q => (k, q)) = none :=
    List.findSome?_eq_none_iff.2 fun j hj => by rw [h j hj]; rfl
  unfold PortRec.handOn
  split
  · rfl
  · rw [hnone]

/-- A reply changes the slots of its port alone. -/
theorem PortRec.placeReply_eq (r : PortRec) (k : Fin 4) (reply : Reply) :
    r.placeReply k reply = { r with slots := (r.placeReply k reply).slots } := by
  unfold PortRec.placeReply PortRec.handOn
  dsimp only
  split
  · rfl
  · split <;> rfl

end Sys2Proof.Machine

/-! SUPPORT. Control ports: the commands of a transaction, the notice and the reply at a port, and the requests the port answers itself,
in the words of the statements. -/
namespace Sys2Proof.Statements

open Sys2Proof.Machine

/-! ### WRITE (R180, R191) -/

theorem exec_whole {s : State} {p : Port} {bytes : List Byte} {u : PortRec} (h : (s.port p).transaction bytes = u) :
    exec (.requestWrite p (.whole bytes)) s = .next (s.setPort p u) := by
  rw [exec_requestWrite, PortRec.writePart, h]

/-- The three acceptance bytes. -/
theorem acceptanceBytes_eq {status : Status} {byte : Byte}
    (h : (status, byte) ∈ [(Status.accepted, (0x01 : Byte)), (.badLength, 0x03), (.queueFull, 0x0D)]) (n : Nat) :
    acceptanceBytes status n = (byte :: List.replicate (n - 1) 0).take n := by
  simp only [List.mem_cons, Prod.mk.injEq, List.not_mem_nil, or_false] at h
  rcases h with ⟨rfl, rfl⟩ | ⟨rfl, rfl⟩ | ⟨rfl, rfl⟩ <;> rfl

/-- Settles O14: the port's answer to the request decides a whole WRITE, and two runs of clocks come to one. -/
theorem writeIsTakenOrRefused : Obligations.WriteIsTakenOrRefused := by
  refine ⟨fun s p tag code n args more hlen => ⟨fun k hp hn hk hlow => ?_, fun hp hn => ?_, fun hfull => ?_,
      fun short hpre hshort => ?_, fun first hw hf => ?_⟩,
    fun s p before after => ?_, fun s p => rfl, fun s p => rfl, fun s p status byte more hf hst hw hm => ?_⟩
  · have hfree := PortRec.freeSlot_eq_some (r := (s.port p).select) hk hlow
    exact exec_whole (PortRec.transaction_write more hlen (PortRec.accept_taken hp (hlen.trans_le hn) hfree))
  · exact exec_whole (PortRec.transaction_write more hlen (PortRec.accept_badLength hp (hn.trans_eq hlen.symm)))
  · refine exec_whole (PortRec.transaction_write more hlen (u := (s.port p).select) (status := .queueFull) ?_)
    rcases hfull with habsent | ⟨hn, hslots⟩
    · exact PortRec.accept_absent habsent
    · exact PortRec.accept_full (hlen.trans_le hn) (PortRec.freeSlot_eq_none (r := (s.port p).select) hslots)
  · exact exec_whole (PortRec.transaction_short (parseRequest_short hpre hshort))
  · exact exec_whole (PortRec.transaction_ignored _ hw hf more)
  · simp only [runAll, exec_requestWrite, PortRec.writePart, State.port_setPort_same, State.setPort_setPort_same, PortRec.clock_clock]
    rfl
  · have hdriven : acceptanceBytes status more.length = byte :: List.replicate (more.length - 1) 0 := by
      rw [acceptanceBytes_eq hst, List.take_of_length_le (by simp; omega)]
    rw [exec_requestWrite, PortRec.writePart, PortRec.clock_write _ _ _ hf hw, PortRec.writeBytes, Nat.zero_add, List.drop_zero, hdriven]

/-! ### FETCH (R182, R191) -/

theorem exec_wholeFetch {s : State} {p : Port} {n : Nat} {u : PortRec} (h : (s.port p).wholeFetch n = u) :
    exec (.fetch p (.whole n)) s = .next (s.setPort p u) := by
  rw [exec_fetch, PortRec.fetchPart, h]

/-- The first REPLIED slot in the taking order is the one a FETCH chooses. -/
theorem chooseItem_reply {r : PortRec} {k : Fin 4} (h : FirstWith (fun j : Fin 4 => r.slots[j].isReplied = true) r.order k) :
    r.chooseItem = .reply k := by
  obtain ⟨before, after, horder, hk, hbefore⟩ := h
  have hfind : (r.order.find? fun k => (r.slots[k]).isReplied) = some k :=
    List.find?_eq_some_iff_append.2 ⟨hk, before, after, horder, fun j hj => by simpa using hbefore j hj⟩
  simp only [PortRec.chooseItem, hfind]

/-- A FETCH of a notice that a drop meets, clocked past its last byte: the notice is gone and the lost flag is set. -/
theorem clock_dropped {r : PortRec} {x y : Notice} {rest : List Notice} {n : Nat} (hp : r.present = true)
    (hnone : ∀ j ∈ r.order, r.slots[j].isReplied = false) (hx : r.notices = x :: rest) (hfull : 15 ≤ rest.length)
    (hy : y.masked r.mask = false) (hn : 4 + x.argBytes.length ≤ n) :
    ((r.openFetch.take y).clock (List.replicate n 0)).lost = true ∧
      ((r.openFetch.take y).clock (List.replicate n 0)).notices = rest := by
  have hitem := PortRec.chooseItem_notice hnone hx
  have himage : (r.imageOf r.chooseItem).length ≤ n := by
    rw [hitem, PortRec.imageOf_notice hx]
    simp only [noticeImage, List.length_append, List.length_cons, List.length_nil]
    omega
  have hroom : 16 ≤ r.openFetch.notices.length := by
    rw [show r.openFetch.notices = x :: rest from hx, List.length_cons]
    omega
  have hdone : Fetch.finishes { item := r.chooseItem, image := r.imageOf r.chooseItem, sent := 0, dropped := true, live := true
                                taken := false } n = true := by
    simpa [Fetch.finishes] using himage
  rw [PortRec.take_full (r := r.openFetch) hp hy hroom, PortRec.clock_fetch _ _ _ rfl, List.length_replicate, PortRec.drive_fetch rfl,
    PortRec.relieved_finished hdone, hitem]
  exact ⟨rfl, congrArg List.tail hx⟩

/-- Settles O15: a whole FETCH by the item chosen, and its parts by the clocks they add up to. -/
theorem fetchReturnsTheOldestItem : Obligations.FetchReturnsTheOldestItem := by
  refine ⟨fun s p n => ⟨fun k r image hk hr himage => ?_, fun x rest image hnone hx himage => ?_, fun hnone hnil => ?_⟩,
    fun s p m n => ?_, fun s t p x y rest n hp hnone hx hrest hy hn ht => ?_, fun s p n hf hw => ?_, fun s p more => rfl⟩
  · rw [exec_wholeFetch (PortRec.wholeFetch_eq (chooseItem_reply hk) ((PortRec.imageOf_reply hr).trans himage.symm) n)]
    split <;> rfl
  · have hdriven : (s.port p).imageOf .notice = image := by
      rw [PortRec.imageOf_notice hx, himage]
      cases (s.port p).lost <;> rfl
    rw [exec_wholeFetch (PortRec.wholeFetch_eq (PortRec.chooseItem_notice hnone hx) hdriven n)]
    split
    · simp only [PortRec.removeItem, hx, List.tail_cons, Bool.and_false]
    · rw [← hx]
  · have hitem : (s.port p).chooseItem = .none := by rw [PortRec.chooseItem_unreplied hnone, hnil]; rfl
    rw [exec_wholeFetch (PortRec.wholeFetch_eq hitem rfl n)]
    cases n with
    | zero => rfl
    | succ n => simp [PortRec.imageOf, PortRec.removeItem, List.replicate_succ]
  · simp only [runAll, exec_fetch, PortRec.fetchPart, State.port_setPort_same, State.setPort_setPort_same, PortRec.clock_clock,
      List.replicate_append_replicate]
    rw [(s.port p).openFetch.clock_fetch _ _ rfl, List.length_replicate]
    rfl
  · cases ht
    have hport : ((s.setPort p (s.port p).openFetch).post p y).port p = (s.port p).openFetch.take y := by
      rw [State.port_post_same, State.port_setPort_same]
    refine ⟨((s.setPort p (s.port p).openFetch).post p y).setPort p
      (((s.port p).openFetch.take y).clock (List.replicate n 0)).deselect, ?_, ?_⟩
    · simp only [runAll, exec_fetch, PortRec.fetchPart, State.port_setPort_same, State.setPort_setPort_same, hport]
    · rw [State.port_setPort_same]
      exact clock_dropped hp hnone hx hrest.ge hy hn
  · rw [exec_fetch, PortRec.fetchPart, PortRec.clock_idle _ _ hf hw, List.length_replicate]

/-! ### Notices (R183, R187) -/

/-- Settles O16: what a port does with a notice, by its presence, its mask and its room; the classes are the table. -/
theorem noticeIsQueuedOrDropped : Obligations.NoticeIsQueuedOrDropped := by
  refine ⟨fun s p x => ⟨fun q hq => s.port_setPort_other p q _ hq, by cases p <;> rfl, fun habsent => ?_, fun c hc hmask => ?_,
      fun hp hclass => ?_⟩,
    fun s x left p => ?_, ?_⟩
  · rw [State.port_post_same, PortRec.take_absent habsent]
  · rw [State.port_post_same, PortRec.take_masked ((x.masked_iff _).2 ⟨c, hc, hmask⟩)]
  · have hm : x.masked (s.port p).mask = false := by
      refine Bool.eq_false_iff.2 fun h => ?_
      obtain ⟨c, hc, hmask⟩ := (x.masked_iff _).1 h
      rw [hclass c hc] at hmask
      cases hmask
    refine ⟨fun hroom => ?_, fun hfull => ?_⟩
    · rw [State.port_post_same, PortRec.take_queued hp hm hroom]
      exact ⟨rfl, by simp [PortRec.attention]⟩
    · rw [State.port_post_same, PortRec.take_full hp hm hfull]
      exact ⟨rfl, rfl, rfl⟩
  · rw [State.port_postAll, State.port_post_same]
  · exact ⟨fun _ _ _ _ _ => rfl, fun _ _ _ _ => rfl, fun _ _ _ => rfl, fun _ _ _ => rfl, fun _ _ => ⟨rfl, rfl⟩, fun _ _ _ _ => rfl,
      fun _ _ _ => rfl, fun _ _ _ _ _ => rfl, fun _ _ _ _ _ _ => rfl, fun _ _ => rfl, fun _ _ _ _ => rfl, fun _ _ => rfl⟩

/-! ### Replies (R181) -/

/-- A search that ends at the first entry with a property. -/
theorem findSome?_of_firstWith {α β : Type} {P : α → Prop} {l : List α} {x : α} {f : α → Option β} {b : β} (h : FirstWith P l x)
    (hx : f x = some b) (hf : ∀ y, ¬ P y → f y = none) : l.findSome? f = some b := by
  obtain ⟨before, after, hl, -, hbefore⟩ := h
  exact List.findSome?_eq_some_iff.2 ⟨before, x, after, hl, hx, fun y hy => hf y (hbefore y hy)⟩

section
variable {r : PortRec} {k j : Fin 4} {q : Request} (reply : Reply)

/-- The other slots stay where another slot is EXECUTING. -/
theorem placeReply_executing (h : ∃ i : Fin 4, i ≠ k ∧ (r.slots[i]).isExecuting = true) (hj : j ≠ k) :
    (r.placeReply k reply).slots[j] = r.slots[j] := by
  obtain ⟨i, hi, hexec⟩ := h
  rw [PortRec.placeReply, PortRec.handOn_executing ⟨i, by rw [slots_set, if_neg hi]; exact hexec⟩, slots_set, if_neg hj]

/-- The other slots stay where no other slot is WAITING. -/
theorem placeReply_idle (h : ∀ i ∈ r.order, i ≠ k → (r.slots[i]).waiting? = none) (hj : j ≠ k) :
    (r.placeReply k reply).slots[j] = r.slots[j] := by
  have hnone : ∀ i ∈ r.order, ((r.slots.set k (.replied reply))[i]).waiting? = none := fun i hi => by
    rw [slots_set]
    split
    · rfl
    · next hne => exact h i hi hne
  rw [PortRec.placeReply, PortRec.handOn_idle hnone, slots_set, if_neg hj]

/-- The oldest other WAITING slot is handed on where no other slot is EXECUTING. -/
theorem placeReply_waiting (hnone : ∀ i : Fin 4, i ≠ k → (r.slots[i]).isExecuting = false)
    (hfirst : FirstWith (fun i : Fin 4 => i ≠ k ∧ (r.slots[i]).waiting?.isSome = true) r.order j) (hq : r.slots[j] = .waiting q) :
    (r.placeReply k reply).slots = (r.slots.set k (.replied reply)).set j (.executing q) := by
  have hidle : ∀ i : Fin 4, ((r.slots.set k (.replied reply))[i]).isExecuting = false := fun i => by
    rw [slots_set]
    split
    · rfl
    · next hne => exact hnone i hne
  have hj : j ≠ k := by
    obtain ⟨-, -, -, ⟨hne, -⟩, -⟩ := hfirst
    exact hne
  rw [PortRec.placeReply, PortRec.handOn_waiting (j := j) (q := q) hidle]
  refine findSome?_of_firstWith hfirst ?_ fun i hi => ?_
  · rw [slots_set, if_neg hj, hq]
    rfl
  · rw [slots_set]
    split
    · rfl
    · next hne =>
      rw [Option.map_eq_none_iff]
      simpa [hne] using hi

end

/-- Settles O17: the two searches of the taking order, and the one of it after the reply. -/
theorem replyIsPlacedAndTheNextRequestHandedOn : Obligations.ReplyIsPlacedAndTheNextRequestHandedOn := by
  refine ⟨fun r k q => ⟨fun hfirst hk => ?_, fun hnone hfirst hk => ?_, PortRec.slot_of_current⟩, fun s p k q st results => ?_,
    fun s p q r => ⟨?_, by cases p <;> rfl⟩⟩
  · refine PortRec.current_executing (findSome?_of_firstWith hfirst (by rw [hk]; rfl) fun i hi => ?_)
    rw [Option.map_eq_none_iff]
    simpa [Slot.isExecuting_eq] using hi
  · refine PortRec.current_waiting hnone (findSome?_of_firstWith hfirst (by rw [hk]; rfl) fun i hi => ?_)
    rw [Option.map_eq_none_iff]
    simpa using hi
  · refine ⟨(s.port p).placeReply k { tag := q.tag, status := st, results := results }, rfl, PortRec.placeReply_eq _ _ _,
      PortRec.placeReply_slot _ _ _, fun hexec j hj => placeReply_executing _ hexec hj, fun j q' hnone hfirst hj => ?_,
      fun hidle j hj => placeReply_idle _ hidle hj⟩
    rw [placeReply_waiting _ hnone hfirst hj]
    refine ⟨by rw [slots_set, if_pos rfl], fun i hik hij => ?_⟩
    rw [slots_set, if_neg hij, slots_set, if_neg hik]
  · split
    · next h => rw [h, State.port_setPort_same]
    · next h => exact s.port_setPort_other p q r h

/-! ### Requests the port answers (R181, R192) -/

/-- A code that stands in no row of R192 names no request. -/
theorem codeKnown_eq_false {code : Byte} (h : code.toNat ∉ [0x01, 0x02, 0x03, 0x04, 0x10, 0x11, 0x12, 0x13, 0x20, 0x21, 0x22, 0x23, 0x24,
      0x25, 0x26, 0x27, 0x28, 0x29, 0x30, 0x31, 0x32, 0x33, 0x38, 0x39, 0x40, 0x41, 0x42, 0x43, 0x44, 0x50, 0x51, 0x52, 0x53, 0x54,
      0x55, 0x60, 0x61, 0x62, 0x63, 0x64]) : codeKnown code = false := by
  unfold codeKnown requestLengths
  split
  case h_41 => rfl
  all_goals
    next hcode =>
      rw [hcode] at h
      exact absurd (by decide) h

theorem exec_unknownRequestCode {s : State} {p : Port} {k : Fin 4} {q : Request} (hc : (s.port p).current = some (k, q))
    (h : codeKnown q.code = false) : exec (.unknownRequestCode p) s = .next (s.reply p k q .unknownRequest []) := by
  show Host.Outcome.next _ = _
  simp only [hc, h, Bool.false_eq_true, if_false]

theorem lengthAllowed_eq_false {q : Request} {lo hi : Nat} (h : requestLengths q.code.toNat = some (lo, hi))
    (hlen : q.args.length < lo ∨ hi < q.args.length) : lengthAllowed q = false := by
  simp only [lengthAllowed, h, decide_eq_false_iff_not]
  omega

/-- A request that is served and whose length its code does not allow. -/
theorem exec_badLength {i : Instr} {s : State} {p : Port} {k : Fin 4} {q : Request} {lo hi : Nat} {meant : Request → Bool}
    {body : Request → State → Answer} (hexec : exec i s = .next (s.serve p meant body)) (hc : (s.port p).current = some (k, q))
    (hm : meant q = true) (hl : requestLengths q.code.toNat = some (lo, hi)) (hlen : q.args.length < lo ∨ hi < q.args.length) :
    exec i s = .next (s.reply p k q .badLength []) := by
  rw [hexec, State.serve_badLength s p _ _ k q hc hm (lengthAllowed_eq_false hl hlen)]

/-- Settles O18: each request is served behind the check of its length, and CAPTURE is served by both its commands. -/
theorem badLengthAndUnknownCodeAreAnsweredByThePort : Obligations.BadLengthAndUnknownCodeAreAnsweredByThePort := by
  refine ⟨fun s p k q hc row hrow hcode hlen => ?_, fun s p k q ⟨hc, hcode, hargs⟩ => ?_, fun s p k q hc hcode => ?_⟩
  · fin_cases hrow
    all_goals exact exec_badLength rfl hc (by simp [Request.hasCode, hcode]) (by rw [hcode]; rfl) hlen
  · have hl : requestLengths q.code.toNat = some (1, 28) := by rw [hcode]; rfl
    have hlen : q.args.length < 1 ∨ 28 < q.args.length := .inl (by rw [hargs]; exact Nat.zero_lt_one)
    exact ⟨exec_badLength rfl hc (by simp [meansNow, Request.hasCode, hcode, hargs]) hl hlen,
      exec_badLength rfl hc (by simp [meansNext, Request.hasCode, hcode, hargs]) hl hlen⟩
  · exact exec_unknownRequestCode hc (codeKnown_eq_false hcode)

end Sys2Proof.Statements

/-! SUPPORT. Posts: the operations that reach the ports by posting notices alone. -/
namespace Sys2Proof.Machine

/-! ### Notices at the ports (R183) -/

/-- The ports of `t` are those of `s` after each of them has taken some notices. -/
def State.OnlyPosts (s t : State) : Prop := ∀ p, ∃ ns : List Notice, t.port p = ns.foldl PortRec.take (s.port p)

theorem State.OnlyPosts.of_ports {s t : State} (h : t.ports = s.ports) : s.OnlyPosts t := fun p => ⟨[], State.port_of_ports h p⟩

theorem State.OnlyPosts.refl (s : State) : s.OnlyPosts s := .of_ports rfl

theorem State.OnlyPosts.trans {s t u : State} (h : s.OnlyPosts t) (k : t.OnlyPosts u) : s.OnlyPosts u := by
  intro p
  obtain ⟨ns, hns⟩ := h p
  obtain ⟨ms, hms⟩ := k p
  exact ⟨ns ++ ms, by rw [hms, hns, List.foldl_append]⟩

theorem State.OnlyPosts.before {s t u : State} (h : s.OnlyPosts t) (hu : u.ports = t.ports) : s.OnlyPosts u := h.trans (.of_ports hu)

theorem State.OnlyPosts.after {s t u : State} (h : t.OnlyPosts u) (ht : t.ports = s.ports) : s.OnlyPosts u :=
  (State.OnlyPosts.of_ports ht).trans h

theorem State.onlyPosts_post (s : State) (p : Port) (n : Notice) : s.OnlyPosts (s.post p n) := by
  intro j
  by_cases h : j = p
  · exact ⟨[n], by rw [h, State.port_post_same]; rfl⟩
  · exact ⟨[], State.port_setPort_other _ _ _ _ h⟩

theorem State.onlyPosts_postAll (s : State) (n : Notice) (o : Option Port) : s.OnlyPosts (s.postAll n o) := by
  intro p
  rw [State.port_postAll]
  split
  · exact ⟨[], rfl⟩
  · exact ⟨[n], rfl⟩

theorem State.onlyPosts_foldl {α : Type} (f : State → α → State) (h : ∀ s a, State.OnlyPosts s (f s a)) (l : List α) (s : State) :
    s.OnlyPosts (l.foldl f s) := by
  induction l generalizing s with
  | nil => exact .refl s
  | cons a l ih => exact (h s a).trans (ih _)

/-! ### The tenancy unit (R104–R118) -/

theorem State.onlyPosts_handover (s : State) (x : Tenancy) (c : TenancyCause) : s.OnlyPosts (s.handover x c) := .of_ports rfl

theorem State.onlyPosts_grantBest (s : State) (c : TenancyCause) (tell : Bool) : s.OnlyPosts (s.grantBest c tell) := by
  unfold State.grantBest
  split
  · exact .refl s
  · dsimp only
    refine State.OnlyPosts.trans ?_ (State.onlyPosts_post _ _ _)
    split
    · split
      · exact (s.onlyPosts_handover _ c).trans (State.onlyPosts_post _ _ _)
      · exact s.onlyPosts_handover _ c
    · exact s.onlyPosts_handover _ c

theorem State.onlyPosts_evaluate (n : Nat) (s : State) : s.OnlyPosts (State.evaluate n s) := by
  induction n generalizing s with
  | zero => exact .refl s
  | succ n ih =>
    unfold State.evaluate
    split
    · exact (s.onlyPosts_grantBest _ _).trans (ih _)
    · exact .refl s

theorem State.onlyPosts_settle (s : State) : s.OnlyPosts s.settle := State.onlyPosts_evaluate _ s

theorem State.onlyPosts_passOn (s : State) (c : TenancyCause) : s.OnlyPosts (s.passOn c) := by
  unfold State.passOn
  split
  · exact s.onlyPosts_handover _ c
  · exact (s.onlyPosts_grantBest c false).trans (State.onlyPosts_settle _)

theorem State.onlyPosts_tenancyReset (s : State) (p : Port) : s.OnlyPosts (s.tenancyReset p) := by
  unfold State.tenancyReset
  split
  · exact s.onlyPosts_passOn _
  · exact .of_ports rfl

theorem State.onlyPosts_singleUseStep (s : State) : s.OnlyPosts s.singleUseStep := by
  unfold State.singleUseStep
  split
  · exact (s.onlyPosts_grantBest _ _).trans (State.onlyPosts_settle _)
  · exact .refl s

theorem State.onlyPosts_passTenancy {s t : State} {p : Port} (h : s.passTenancy p = some t) : s.OnlyPosts t := by
  unfold State.passTenancy at h
  split at h
  · cases h; exact s.onlyPosts_handover _ _
  · split at h <;> cases h
    exact .of_ports rfl

theorem State.onlyPosts_tenancyTick (s : State) : s.OnlyPosts s.tenancyTick := .after (State.onlyPosts_settle _) rfl

theorem State.onlyPosts_claim (s : State) (p : Port) (q : Request) : s.OnlyPosts (s.claim p q).state := by
  unfold State.claim
  split
  · exact .refl s
  · dsimp only
    split
    · exact s.onlyPosts_handover _ _
    · split
      · exact .after (State.onlyPosts_settle _) rfl
      · split
        · exact ((s.onlyPosts_handover _ _).trans (State.onlyPosts_post _ _ _)).trans (State.onlyPosts_settle _)
        · split
          · exact .after (State.onlyPosts_settle _) rfl
          · exact .refl s

theorem State.onlyPosts_release (s : State) (p : Port) : s.OnlyPosts (s.release p).state := by
  simp only [State.release, Answer.ok]
  split
  · exact s.onlyPosts_passOn _
  · exact .refl s

theorem State.onlyPosts_ownerActs (s : State) (id kept : Nat) : s.OnlyPosts (s.ownerActs id kept) := by
  unfold State.ownerActs
  split
  · exact .after (State.onlyPosts_settle _) rfl
  · exact s.onlyPosts_settle
  · exact s.onlyPosts_settle
  · split
    · exact .of_ports rfl
    · exact .refl s
  · exact .refl s

/-! ### The view unit (R65–R67) -/

theorem State.onlyPosts_sourcePage (s : State) (p : Port) (source : Source) (slot serial : Nat) :
    s.OnlyPosts (s.sourcePage p source slot serial).state := by
  unfold State.sourcePage
  split
  · exact .refl s
  · split
    · exact .refl s
    · exact .of_ports rfl

theorem State.onlyPosts_setSource (s : State) (p : Port) (q : Request) : s.OnlyPosts (s.setSource p q).state := by
  unfold State.setSource
  split
  · exact .refl s
  · exact .of_ports rfl
  · exact s.onlyPosts_sourcePage _ _ _ _
  · exact s.onlyPosts_sourcePage _ _ _ _

theorem State.onlyPosts_freeze (s : State) (p : Port) : s.OnlyPosts (s.freeze p).state := by
  unfold State.freeze
  split
  · exact .of_ports rfl
  · split <;> exact .of_ports rfl

theorem State.onlyPosts_unfreeze (s : State) (p : Port) : s.OnlyPosts (s.unfreeze p).state := by
  unfold State.unfreeze
  split
  · exact .of_ports (by simp [Answer.ok])
  · exact .of_ports rfl

/-! ### The picture requests and the projector feed (R33, R43, R45, R83–R91, R100) -/

theorem State.onlyPosts_setClarity (s : State) (q : Request) : s.OnlyPosts (s.setClarity q).state := by
  unfold State.setClarity
  split <;> exact .of_ports rfl

theorem State.onlyPosts_setExposure (s : State) (q : Request) : s.OnlyPosts (s.setExposure q).state := by
  unfold State.setExposure
  split <;> exact .of_ports rfl

theorem State.onlyPosts_setLamp (s : State) (q : Request) : s.OnlyPosts (s.setLamp q).state := by
  unfold State.setLamp
  split
  · exact .refl s
  · dsimp only
    split <;> exact .of_ports rfl

theorem State.onlyPosts_enterFeed (s : State) (f : Feed) (c : FeedCause) : s.OnlyPosts (s.enterFeed f c) :=
  .after (State.onlyPosts_postAll _ _ _) rfl

theorem State.onlyPosts_setOutputMode (s : State) (q : Request) : s.OnlyPosts (s.setOutputMode q).state := by
  unfold State.setOutputMode
  split
  · exact .refl s
  · split
    · exact .refl s
    · split
      · exact .of_ports rfl
      · exact s.onlyPosts_enterFeed _ _

theorem State.onlyPosts_readFault (s : State) (w : FeedArea) (a : Area) (b : BufId) (f : FaultPlace) :
    s.OnlyPosts (s.readFault w a b f) := .after (State.onlyPosts_postAll _ _ _) rfl

/-! ### Pins (R12, R13, R135) -/

theorem State.onlyPosts_unpin (s : State) (b : BufId) : s.OnlyPosts (s.unpin b) := by
  unfold State.unpin State.pinsGone
  dsimp only
  split
  · split
    · exact .after (State.onlyPosts_postAll _ _ _) rfl
    · exact .of_ports rfl
  · exact .of_ports rfl

theorem State.onlyPosts_unpin? (s : State) (o : Option BufId) : s.OnlyPosts (s.unpin? o) := by
  cases o with
  | none => exact .refl s
  | some b => exact s.onlyPosts_unpin b

theorem State.onlyPosts_beginFrame (s : State) : s.OnlyPosts s.beginFrame := by
  unfold State.beginFrame
  split
  · exact .refl s
  · split
    · exact .of_ports rfl
    · exact (s.onlyPosts_enterFeed { s.feed with state := .running } .started).before (by simp [State.startFeed])
  · exact .of_ports (by simp)

theorem State.onlyPosts_releaseFeed (s : State) : s.OnlyPosts s.releaseFeed :=
  ((s.onlyPosts_unpin? _).trans (State.onlyPosts_unpin? _ _)).before rfl

theorem State.onlyPosts_commitAndBegin (s : State) : s.OnlyPosts s.commitAndBegin := by
  have hcommit : s.commit.ports = s.ports := by simp
  exact .after ((State.onlyPosts_releaseFeed _).trans (State.onlyPosts_beginFrame _)) hcommit

/-! ### The page store (R124–R135) -/

theorem State.onlyPosts_storing (s : State) (k : SlotId) (tag : PageTag) (b : BufId) (info : FrameMeta) (o : Option Port) :
    s.OnlyPosts (s.storing k tag b info o).state := .after (State.onlyPosts_postAll _ _ o) rfl

theorem State.onlyPosts_storePage (s : State) (k : SlotId) (tag : PageTag) (b : BufId) (info : FrameMeta) (o : Option Port) :
    s.OnlyPosts (s.storePage k tag b info o) := (s.onlyPosts_storing k tag b info o).before rfl

theorem State.onlyPosts_storingAuto (s : State) (k : SlotId) (trigger : Trigger) (b : BufId) (info : FrameMeta) (pool : Pool) :
    s.OnlyPosts (s.storingAuto k trigger b info pool).state := .after (State.onlyPosts_storing _ _ _ _ _ none) rfl

theorem State.onlyPosts_skipping (s : State) (trigger : Trigger) (cause : SkipCause) (frame : Word) :
    s.OnlyPosts (s.skipping trigger cause frame).state := s.onlyPosts_postAll _ none

theorem State.onlyPosts_capturingTimed (s : State) : s.OnlyPosts s.capturingTimed.state := by
  unfold State.capturingTimed
  split
  · exact s.onlyPosts_skipping _ _ _
  · split
    · exact s.onlyPosts_storingAuto _ _ _ _ _
    · exact s.onlyPosts_skipping _ _ _
    · exact s.onlyPosts_skipping _ _ _

theorem State.onlyPosts_capturingTurn (s : State) (r : Report) : s.OnlyPosts (s.capturingTurn r).state := by
  unfold State.capturingTurn
  split
  · exact s.onlyPosts_skipping _ _ _
  · split
    · exact s.onlyPosts_skipping _ _ _
    · split
      · exact s.onlyPosts_storingAuto _ _ _ _ _
      · exact s.onlyPosts_skipping _ _ _
      · exact s.onlyPosts_skipping _ _ _

theorem State.onlyPosts_capture (s : State) (p : Port) (q : Request) : s.OnlyPosts (s.capture p q).state := by
  unfold State.capture
  dsimp only
  split
  · exact .refl s
  · split
    · exact .refl s
    · split
      · exact .refl s
      · split
        · unfold State.captureNow
          split
          · exact .after (State.onlyPosts_storePage _ _ _ _ _ (some p)) rfl
          · exact .refl s
          · exact .refl s
        · exact .of_ports rfl

theorem State.onlyPosts_fill (s : State) (r : Report) (k : SlotId) : s.OnlyPosts (s.fill r k) := by
  unfold State.fill
  split
  · split
    · split
      · exact .after (State.onlyPosts_storePage _ _ _ _ _ none) rfl
      · exact .refl s
    · exact .refl s
  · exact .refl s

theorem State.onlyPosts_pageTurn (s : State) (r : Report) : s.OnlyPosts (s.pageTurn r) :=
  (s.onlyPosts_capturingTurn r).before (by simp [State.pageTurn])

theorem State.onlyPosts_storeReport (s : State) (r : StoreReport) : s.OnlyPosts (s.storeReport r) := by
  have hfill : s.OnlyPosts (s.fillAll r.report) := State.onlyPosts_foldl _ (fun t k => t.onlyPosts_fill r.report k) _ s
  unfold State.storeReport
  dsimp only
  split
  · exact hfill.trans (State.onlyPosts_pageTurn _ _)
  · exact hfill

theorem State.onlyPosts_storeNextReport (s : State) : s.OnlyPosts s.storeNextReport := by
  unfold State.storeNextReport
  split
  · exact .refl s
  · exact .after (State.onlyPosts_storeReport _ _) rfl

theorem State.onlyPosts_failReservation (s : State) (k : SlotId) : s.OnlyPosts (s.failReservation k) := by
  unfold State.failReservation
  split
  · exact .after (State.onlyPosts_postAll _ _ none) rfl
  · exact .refl s

theorem State.onlyPosts_discard (s : State) (p : Port) (q : Request) : s.OnlyPosts (s.discard p q).state := by
  unfold State.discard
  split
  · exact .refl s
  · split
    · split
      · exact .after (State.onlyPosts_postAll _ _ (some p)) rfl
      · exact .refl s
    · split
      · unfold State.discardStored
        split
        · exact .refl s
        · split
          · exact .of_ports rfl
          · exact .before (.after (State.onlyPosts_postAll _ _ (some p)) rfl) rfl
      · exact .refl s
    · exact .refl s

theorem State.onlyPosts_setLabel (s : State) (q : Request) : s.OnlyPosts (s.setLabel q).state := by
  unfold State.setLabel
  dsimp only
  split
  · exact .refl s
  · split
    · exact .refl s
    · split
      · split <;> exact .of_ports rfl
      · split <;> exact .of_ports rfl
      · exact .refl s

/-! ### The intake unit (R25–R29) -/

theorem State.onlyPosts_complete (s : State) (b : BufId) : s.OnlyPosts (s.complete b) := by
  unfold State.complete State.liftStall
  dsimp only
  split
  · exact .before (.after (State.onlyPosts_postAll _ _ none) rfl) rfl
  · exact .of_ports rfl

theorem State.onlyPosts_failReservations (s : State) : s.OnlyPosts s.failReservations :=
  State.onlyPosts_foldl _ State.onlyPosts_failReservation _ s

theorem State.onlyPosts_stall (s : State) : s.OnlyPosts s.stall := by
  have hpost : s.OnlyPosts
      ((s.withIntake s.intake.stall).postAll (.intakeStalled s.intake.lastCompleted s.intake.completed) none) :=
    .after (State.onlyPosts_postAll _ _ none) rfl
  exact (hpost.before (by simp)).trans (State.onlyPosts_failReservations _)

theorem State.onlyPosts_countOutputFrame (s : State) : s.OnlyPosts s.countOutputFrame := by
  unfold State.countOutputFrame
  dsimp only
  split
  · exact .after (State.onlyPosts_stall _) rfl
  · exact .of_ports rfl

/-! ### The lesson clock (R145–R149, R157, R158) -/

theorem State.onlyPosts_changeLesson (s : State) (l : Lesson) (c : LessonCause) : s.OnlyPosts (s.changeLesson l c) :=
  .after (State.onlyPosts_postAll _ _ none) rfl

theorem State.onlyPosts_lessonStart (s : State) (p : Port) : s.OnlyPosts (s.lessonStart p).state := by
  unfold State.lessonStart
  split
  · exact (s.onlyPosts_changeLesson _ _).before rfl
  · exact .refl s

theorem State.onlyPosts_lessonPause (s : State) (p : Port) : s.OnlyPosts (s.lessonPause p).state := by
  unfold State.lessonPause
  split
  · exact (s.onlyPosts_changeLesson _ _).before rfl
  · exact .refl s

theorem State.onlyPosts_lessonResume (s : State) (p : Port) : s.OnlyPosts (s.lessonResume p).state := by
  unfold State.lessonResume
  split
  · exact (s.onlyPosts_changeLesson _ _).before rfl
  · exact .refl s

theorem State.onlyPosts_lessonEnd (s : State) (p : Port) : s.OnlyPosts (s.lessonEnd p).state := by
  have hend : s.OnlyPosts (s.endLesson p).state := (s.onlyPosts_changeLesson _ _).before rfl
  unfold State.lessonEnd
  split
  · exact hend
  · exact hend
  · exact .refl s

theorem State.onlyPosts_lessonClear (s : State) : s.OnlyPosts s.lessonClear.state := by
  unfold State.lessonClear
  split
  · exact .after (State.onlyPosts_changeLesson _ _ _) rfl
  · exact .refl s

/-! ### The export link (R162–R174) -/

theorem State.onlyPosts_haltChannel (s : State) (c : Channel) : s.OnlyPosts (s.haltChannel c) := by
  unfold State.haltChannel
  split
  · exact .after (State.onlyPosts_unpin _ _) rfl
  · exact .refl s

theorem State.onlyPosts_halt (s : State) (cause : HaltCause) : s.OnlyPosts (s.halt cause) := by
  unfold State.halt
  split
  · exact .refl s
  · exact .after ((State.onlyPosts_haltChannel _ .ex0).trans ((State.onlyPosts_haltChannel _ .ex1).trans
      (.after (State.onlyPosts_postAll _ _ none) rfl))) rfl

theorem State.onlyPosts_channelDone (s : State) (c : Channel) (d : ChanData) : s.OnlyPosts (s.channelDone c d) := by
  unfold State.channelDone
  dsimp only
  refine State.OnlyPosts.trans (.after (State.onlyPosts_unpin _ _) ?_) (State.onlyPosts_postAll _ _ none)
  split <;> rfl

theorem State.onlyPosts_delivered (s : State) (b : Block) : s.OnlyPosts (s.delivered b) := by
  unfold State.delivered State.pageDelivered
  split
  · split
    · split
      · exact s.onlyPosts_channelDone _ _
      · exact .of_ports rfl
    · split
      · exact s.onlyPosts_channelDone _ _
      · exact .after (State.onlyPosts_unpin _ _) rfl
    · exact .refl s
  · unfold State.timelineDelivered
    dsimp only
    split
    · exact .after (State.onlyPosts_changeLesson _ _ _) rfl
    · exact .of_ports rfl

theorem State.onlyPosts_lastByte (s : State) : s.OnlyPosts s.lastByte := by
  unfold State.lastByte
  split
  · exact .after (State.onlyPosts_delivered _ _) rfl
  · exact .refl s

theorem State.onlyPosts_clockTransfer (s : State) (n : Nat) : s.OnlyPosts (s.clockTransfer n) := by
  unfold State.clockTransfer
  split
  · split
    · exact .refl s
    · split
      · exact s.onlyPosts_lastByte
      · exact .of_ports rfl
  · exact .of_ports rfl
  · exact .refl s

theorem State.onlyPosts_closeTransfer (s : State) : s.OnlyPosts s.closeTransfer := by
  unfold State.closeTransfer
  dsimp only
  split
  · exact .after (State.onlyPosts_halt _ _) rfl
  · exact .of_ports rfl

theorem State.onlyPosts_linkTick (s : State) : s.OnlyPosts s.linkTick := by
  unfold State.linkTick
  split
  · dsimp only
    split
    · exact .after (State.onlyPosts_halt _ _) rfl
    · exact .of_ports rfl
  · exact .refl s

theorem onlyPosts_openTransfer {s t : State} (h : s.openTransfer = .next t) : s.OnlyPosts t := by
  have hpage : ∀ c d, s.sendPage c d = .next t → s.OnlyPosts t := by
    intro c d hsent
    unfold State.sendPage at hsent
    dsimp only at hsent
    split at hsent
    · cases hsent; exact .of_ports rfl
    · split at hsent <;> cases hsent
      exact .of_ports rfl
  unfold State.openTransfer State.pullReady at h
  split at h
  · split at h
    · cases h; exact .of_ports rfl
    · split at h
      · cases h; exact .of_ports rfl
      · split at h
        · exact hpage _ _ h
        · cases h; exact .of_ports rfl
  · cases h; exact .of_ports rfl
  · cases h; exact .of_ports rfl

theorem State.onlyPosts_exportPage (s : State) (p : Port) (q : Request) : s.OnlyPosts (s.exportPage p q).state := by
  unfold State.exportPage State.startExport
  split
  · split
    · exact .refl s
    · split
      · exact .refl s
      · split <;> exact .of_ports rfl
  · exact .refl s

theorem State.onlyPosts_exportStop (s : State) (q : Request) : s.OnlyPosts (s.exportStop q).state := by
  unfold State.exportStop State.stopChannel
  split
  · exact .refl s
  · split
    · split
      · exact .of_ports rfl
      · exact .after (State.onlyPosts_unpin _ _) rfl
    all_goals exact .refl s

theorem State.onlyPosts_exportContinue (s : State) (q : Request) : s.OnlyPosts (s.exportContinue q).state := by
  unfold State.exportContinue State.continueChannel
  split
  · exact .refl s
  · split
    · split <;> exact .of_ports rfl
    · split <;> exact .of_ports rfl
    · exact .refl s

theorem State.onlyPosts_exportResume (s : State) : s.OnlyPosts s.exportResume.state := by
  unfold State.exportResume
  split
  · split <;> exact .of_ports rfl
  · exact .refl s

/-! ### Lines written (R21, R25) -/

theorem onlyPosts_writeLine {s t : State} {y : Nat} {bytes : List Byte} {after : Intake} (h : s.writeLine y bytes after = .next t) :
    s.OnlyPosts t := by
  unfold State.writeLine at h
  split at h
  · cases h; exact .of_ports rfl
  · split at h <;> cases h
    exact .of_ports rfl

theorem onlyPosts_sensorLineEnd {s t : State} (h : execSensorLineEnd s = .next t) : s.OnlyPosts t := by
  unfold execSensorLineEnd at h
  split at h
  · cases h; exact .refl s
  · split at h
    · split at h
      · cases h; exact .of_ports rfl
      · exact onlyPosts_writeLine h
    · cases h; exact .of_ports rfl

theorem onlyPosts_sensorFrameEnd {s t : State} (h : execSensorFrameEnd s = .next t) : s.OnlyPosts t := by
  unfold execSensorFrameEnd at h
  split at h
  · cases h; exact .refl s
  · split at h
    · exact onlyPosts_writeLine h
    · cases h; exact .of_ports rfl

end Sys2Proof.Machine

/-! SUPPORT. Port figures: what keeps the figures of a port record, and every command and every step. -/
namespace Sys2Proof.Machine

/-! ### The figures of one port (R179, R184) -/

section
variable {r : PortRec}

/-- A slot in the taking order that is written and stays non-FREE. -/
theorem PortRec.ok_setSlot (h : r.ok) {k : Fin 4} (hk : k ∈ r.order) {x : Slot} (hx : x.isFree = false) :
    PortRec.ok { r with slots := r.slots.set k x } := by
  obtain ⟨hroom, hnodup, horder, habsent⟩ := h
  refine ⟨hroom, hnodup, fun j => ?_, habsent⟩
  dsimp only
  rw [slots_set]
  split
  · next hj => exact ⟨fun _ => hx, fun _ => hj ▸ hk⟩
  · exact horder j

/-- A slot freed and taken out of the taking order. -/
theorem PortRec.ok_freeSlot (h : r.ok) (k : Fin 4) :
    PortRec.ok { r with slots := r.slots.set k .free, order := r.order.filter fun j => decide (j ≠ k) } := by
  obtain ⟨hroom, hnodup, horder, habsent⟩ := h
  refine ⟨hroom, hnodup.filter _, fun j => ?_, fun hp => ?_⟩
  · dsimp only
    rw [slots_set, List.mem_filter, decide_eq_true_eq]
    split
    · next hj => exact ⟨fun ⟨_, hne⟩ => absurd hj hne, nofun⟩
    · next hj => exact ⟨fun ⟨hmem, _⟩ => (horder j).1 hmem, fun hslot => ⟨(horder j).2 hslot, hj⟩⟩
  · obtain ⟨hnotices, hnil⟩ := habsent hp
    exact ⟨hnotices, by dsimp only; rw [hnil]; rfl⟩

theorem PortRec.ok_take (h : r.ok) (n : Notice) : (r.take n).ok := by
  obtain ⟨hslots, horder, hpresent, -⟩ := r.take_keeps n
  obtain ⟨hroom, hnodup, hmem, habsent⟩ := h
  refine ⟨r.take_room n hroom, by rw [horder]; exact hnodup, fun k => by rw [horder, hslots]; exact hmem k, fun hp => ?_⟩
  rw [hpresent] at hp
  rw [PortRec.take_absent hp]
  exact habsent hp

theorem PortRec.ok_foldl_take (h : r.ok) (ns : List Notice) : (ns.foldl PortRec.take r).ok := by
  induction ns generalizing r with
  | nil => exact h
  | cons n ns ih => exact ih (PortRec.ok_take h n)

theorem PortRec.order_foldl_take (r : PortRec) (ns : List Notice) : (ns.foldl PortRec.take r).order = r.order := by
  induction ns generalizing r with
  | nil => rfl
  | cons n ns ih =>
    obtain ⟨-, horder, -⟩ := r.take_keeps n
    exact (ih (r.take n)).trans horder

/-- Handing on changes a WAITING slot to EXECUTING, which is no more FREE. -/
theorem PortRec.ok_handOn (h : r.ok) : r.handOn.ok := by
  obtain ⟨hpresent, horder, hnotices, -⟩ := r.handOn_keeps
  obtain ⟨hroom, hnodup, hmem, habsent⟩ := h
  have hfree : ∀ k : Fin 4, (r.handOn.slots[k]).isFree = (r.slots[k]).isFree := fun k => by
    rcases r.handOn_slot k with hsame | ⟨q, hwaiting, hexecuting⟩
    · rw [hsame]
    · rw [hwaiting, hexecuting]; rfl
  refine ⟨by rw [hnotices]; exact hroom, by rw [horder]; exact hnodup, fun k => by rw [horder, hfree]; exact hmem k, fun hp => ?_⟩
  rw [hnotices, horder]
  exact habsent (hpresent ▸ hp)

theorem PortRec.ok_placeReply (h : r.ok) {k : Fin 4} (hk : k ∈ r.order) (reply : Reply) : (r.placeReply k reply).ok :=
  PortRec.ok_handOn (PortRec.ok_setSlot h hk rfl)

/-- A port that takes a request is present, and the slot it takes was not in the taking order. -/
theorem PortRec.ok_accept (h : r.ok) (q : Request) : (r.accept q).1.ok := by
  rcases r.accept_cases q with hsame | ⟨k, hp, hfree, htaken⟩
  · rw [hsame]; exact h
  · obtain ⟨hroom, hnodup, horder, -⟩ := h
    have hk : k ∉ r.order := fun hmem => by
      have hused := (horder k).1 hmem
      rw [PortRec.isFree_of_freeSlot hfree] at hused
      cases hused
    rw [htaken]
    refine ⟨hroom, hnodup.append (List.nodup_singleton k) (List.disjoint_singleton.2 hk), fun j => ?_, fun habsent => ?_⟩
    · dsimp only
      rw [slots_set, List.mem_append, List.mem_singleton]
      split
      · next hj => exact ⟨fun _ => rfl, fun _ => .inr hj⟩
      · next hj => exact ⟨fun hmem => (horder j).1 (hmem.resolve_right hj), fun hslot => .inl ((horder j).2 hslot)⟩
    · rw [hp] at habsent
      cases habsent

theorem PortRec.ok_receive (h : r.ok) (m : List Byte) : (r.receive m).ok := by
  unfold PortRec.receive
  split
  · exact PortRec.ok_accept h _
  · exact h

theorem PortRec.ok_removeItem (h : r.ok) (item : FetchItem) (dropped : Bool) : (r.removeItem item dropped).ok := by
  cases item with
  | reply k => exact PortRec.ok_freeSlot h k
  | notice =>
    obtain ⟨hroom, hnodup, horder, habsent⟩ := h
    refine ⟨?_, hnodup, horder, fun hp => ?_⟩
    · simp only [PortRec.removeItem, List.length_tail]
      omega
    · obtain ⟨hnil, hnone⟩ := habsent hp
      exact ⟨congrArg List.tail hnil, hnone⟩
  | none => exact h

theorem PortRec.ok_drive (h : r.ok) (n : Nat) : (r.drive n).ok := by
  cases hf : r.fetch with
  | none => rw [PortRec.drive_idle hf]; exact h
  | some f =>
    rw [PortRec.drive_fetch hf]
    have hrelieved : (r.relieved f n).ok := by
      unfold PortRec.relieved
      split
      · exact PortRec.ok_removeItem h _ _
      · exact h
    exact hrelieved

theorem PortRec.ok_firstBytes (h : r.ok) (bytes : List Byte) : (r.firstBytes bytes).ok := by
  cases bytes with
  | nil => exact h
  | cons first rest =>
    by_cases h1 : first = 1
    · rw [h1]
      exact PortRec.ok_receive h rest
    · by_cases h2 : first = 2
      · rw [h2]
        exact PortRec.ok_drive (r := r.openFetch) h _
      · rw [r.firstBytes_other h1 h2]
        exact h

theorem PortRec.ok_clock (h : r.ok) (bytes : List Byte) : (r.clock bytes).ok := by
  unfold PortRec.clock
  split
  · next w _ _ =>
    cases w with
    | opened => exact PortRec.ok_firstBytes h bytes
    | message sofar => exact PortRec.ok_receive h _
    | answered status clocked => exact h
    | ignored => exact h
  · exact PortRec.ok_drive h _

theorem PortRec.ok_writePart (h : r.ok) (part : WritePart) : (r.writePart part).ok := by
  cases part with
  | whole bytes => exact PortRec.ok_clock (r := r.select) h bytes
  | select => exact h
  | clock bytes => exact PortRec.ok_clock h bytes
  | deselect => exact h

theorem PortRec.ok_fetchPart (h : r.ok) (part : FetchPart) : (r.fetchPart part).ok := by
  cases part with
  | whole n => exact PortRec.ok_drive (r := r.openFetch) h n
  | choose => exact h
  | clock n => exact PortRec.ok_clock h _
  | deselect => exact h

/-- A port after a reset that keeps no slot, whatever it was before. -/
theorem PortRec.ok_cleared_none (r : PortRec) : (r.cleared none).ok := by
  rw [PortRec.cleared_none]
  exact ⟨Nat.zero_le _, List.nodup_nil, fun k => by simp [Slot.isFree], fun _ => ⟨rfl, rfl⟩⟩

/-- A port after a reset that keeps the slot of a request that it hands on. -/
theorem PortRec.ok_cleared (h : r.ok) {k : Fin 4} (hk : k ∈ r.order) : (r.cleared (some k)).ok := by
  obtain ⟨-, hnodup, horder, habsent⟩ := h
  have hone := PortRec.cleared_order hk hnodup
  refine ⟨Nat.zero_le _, by rw [hone]; exact List.nodup_singleton k, fun j => ?_, fun hp => ?_⟩
  · rw [hone, List.mem_singleton, PortRec.cleared_slot]
    split
    · next hj => exact ⟨fun _ => (horder k).1 hk, fun _ => hj⟩
    · next hj => exact ⟨fun he => absurd he hj, nofun⟩
  · obtain ⟨-, hnil⟩ := habsent hp
    rw [hnil] at hk
    exact absurd hk List.not_mem_nil

end

/-- A port right after a part reset (R190). -/
theorem PortRec.ok_reset (present : Bool) : (PortRec.reset present).ok :=
  ⟨Nat.zero_le _, List.nodup_nil, fun k => by simp [PortRec.reset, Slot.isFree], fun _ => ⟨rfl, rfl⟩⟩

/-! ### The figures of the three ports -/

theorem State.portsOk_iff (s : State) : s.portsOk ↔ ∀ p, (s.port p).ok := by
  refine ⟨fun ⟨hpanel, hdesk, hrecorder⟩ p => ?_, fun h => ⟨h .panel, h .desk, h .recorder⟩⟩
  cases p
  · exact hpanel
  · exact hdesk
  · exact hrecorder

/-- At each port, figures that hold in `s` hold in `t`. -/
def State.KeepsPorts (s t : State) : Prop := ∀ p, (s.port p).ok → (t.port p).ok

theorem State.KeepsPorts.refl (s : State) : s.KeepsPorts s := fun _ => id

theorem State.KeepsPorts.trans {s t u : State} (h : s.KeepsPorts t) (k : t.KeepsPorts u) : s.KeepsPorts u := fun p hp => k p (h p hp)

theorem State.OnlyPosts.keepsPorts {s t : State} (h : s.OnlyPosts t) : s.KeepsPorts t := by
  intro p hp
  obtain ⟨ns, hns⟩ := h p
  rw [hns]
  exact PortRec.ok_foldl_take hp ns

theorem State.OnlyPosts.order {s t : State} (h : s.OnlyPosts t) (p : Port) : (t.port p).order = (s.port p).order := by
  obtain ⟨ns, hns⟩ := h p
  rw [hns, PortRec.order_foldl_take]

theorem State.KeepsPorts.of_ports {s t : State} (h : t.ports = s.ports) : s.KeepsPorts t := (State.OnlyPosts.of_ports h).keepsPorts

/-- One port's record replaced. -/
theorem State.keepsPorts_setPort (s : State) {p : Port} {r : PortRec} (h : (s.port p).ok → r.ok) : s.KeepsPorts (s.setPort p r) := by
  intro j hj
  by_cases hp : j = p
  · subst hp
    rw [State.port_setPort_same]
    exact h hj
  · rw [State.port_setPort_other _ _ _ _ hp]
    exact hj

/-- A command that does something on an occasion only. -/
theorem State.keepsPorts_ite {s t u : State} {c : Prop} [Decidable c]
    (h : (.next (if c then t else s) : Host.Outcome State Fault Refusal) = .next u) (ht : s.KeepsPorts t) : s.KeepsPorts u := by
  cases h
  split
  · exact ht
  · exact .refl s

/-! ### Carrying out a request (R181) -/

theorem State.keepsPorts_reply (s : State) {p : Port} {k : Fin 4} (hk : k ∈ (s.port p).order) (q : Request) (status : Status)
    (results : List Byte) : s.KeepsPorts (s.reply p k q status results) :=
  s.keepsPorts_setPort fun h => PortRec.ok_placeReply h hk _

/-- A request carried out while its slot stays in the taking order. -/
theorem State.keepsPorts_serve (s : State) (p : Port) (meant : Request → Bool) {body : Request → State → Answer}
    (h : ∀ k q, (s.port p).current = some (k, q) → s.KeepsPorts (body q s).state ∧ k ∈ ((body q s).state.port p).order) :
    s.KeepsPorts (s.serve p meant body) := by
  unfold State.serve
  split
  · exact .refl s
  · next k q hc =>
    split
    · split
      · obtain ⟨hbody, hk⟩ := h k q hc
        exact hbody.trans (State.keepsPorts_reply _ hk _ _ _)
      · exact s.keepsPorts_reply (PortRec.mem_order_of_current hc) _ _ _
    · exact .refl s

/-- A request that reaches the ports by its notices alone. -/
theorem State.keepsPorts_serve_posts (s : State) (p : Port) (meant : Request → Bool) {body : Request → State → Answer}
    (h : ∀ q, s.OnlyPosts (body q s).state) : s.KeepsPorts (s.serve p meant body) :=
  s.keepsPorts_serve p meant fun _ q hc => ⟨(h q).keepsPorts, by rw [(h q).order]; exact PortRec.mem_order_of_current hc⟩

theorem keepsPorts_serveOpen {code : Nat} {p : Port} {body : Request → State → Answer} {s t : State}
    (ht : serveOpen code p body s = .next t) (h : ∀ q, s.OnlyPosts (body q s).state) : s.KeepsPorts t := by
  cases ht
  exact s.keepsPorts_serve_posts p _ h

/-- A request behind the gate: the gate, the request and the single-use step post notices alone. -/
theorem keepsPorts_serveGated {code : Nat} {p : Port} {body : Request → State → Answer} {s t : State}
    (ht : serveGated code p body s = .next t) (h : ∀ q (u : State), u.OnlyPosts (body q u).state) : s.KeepsPorts t := by
  cases ht
  refine s.keepsPorts_serve_posts p _ fun q => ?_
  unfold State.gated
  split
  · exact .refl s
  · next u hu => exact ((State.onlyPosts_passTenancy hu).trans (h q u)).trans (State.onlyPosts_singleUseStep _)

/-! ### Requests that write the port's record -/

/-- SET_PARAM writes the port's mask, or has the owner of another parameter act. -/
theorem State.keepsPorts_setParam (s : State) (p : Port) (q : Request) :
    s.KeepsPorts (s.setParam p q).state ∧ ((s.setParam p q).state.port p).order = (s.port p).order := by
  have hposts : ∀ {t : State}, s.OnlyPosts t → s.KeepsPorts t ∧ (t.port p).order = (s.port p).order :=
    fun h => ⟨h.keepsPorts, h.order p⟩
  unfold State.setParam
  dsimp only
  split
  · split
    · exact ⟨s.keepsPorts_setPort id, by rw [Answer.ok, State.port_setPort_same]; rfl⟩
    · exact hposts (.refl s)
  · split
    · exact hposts (.after (State.onlyPosts_ownerActs _ _ _) rfl)
    · exact hposts (.refl s)

theorem State.keepsPorts_partRead (s : State) (p : Port) (part : SummaryPart) {t : State} (h : execPartRead p s part = .next t) :
    s.KeepsPorts t := by
  cases part with
  | ask block =>
    cases h
    unfold State.askBlock
    split
    · exact .refl s
    · next k q hc =>
      split
      · exact s.keepsPorts_setPort fun h => PortRec.ok_setSlot h (PortRec.mem_order_of_current hc) rfl
      · exact .refl s
  | rest =>
    cases h
    refine s.keepsPorts_serve p _ fun k q hc => ⟨s.keepsPorts_setPort id, ?_⟩
    rw [Answer.ok, State.dropAnswers, State.port_setPort_same]
    exact PortRec.mem_order_of_current hc

/-- PORT_RESET keeps the slot of its own request in the taking order. -/
theorem State.keepsPorts_resetOwn (s : State) {p : Port} {k : Fin 4} {q : Request} (hc : (s.port p).current = some (k, q)) :
    s.KeepsPorts (s.resetOwn p).state ∧ k ∈ ((s.resetOwn p).state.port p).order := by
  have hk := PortRec.mem_order_of_current hc
  have hposts := State.onlyPosts_tenancyReset (s.setPort p ((s.port p).cleared (some k))) p
  have hreset : (s.resetOwn p).state = (s.setPort p ((s.port p).cleared (some k))).tenancyReset p := by
    rw [State.resetOwn, hc]
    rfl
  rw [hreset, hposts.order, State.port_setPort_same]
  refine ⟨(s.keepsPorts_setPort fun h => PortRec.ok_cleared h hk).trans hposts.keepsPorts, ?_⟩
  simp [PortRec.cleared, hk]

/-- The drop of a presence line leaves a port that holds nothing. -/
theorem State.keepsPorts_lose (s : State) (p : Port) : s.KeepsPorts (s.lose p) := by
  have hreset : s.KeepsPorts ((s.setPort p { s.port p with present := false, write := none }).portReset p none) := by
    unfold State.portReset
    rw [State.port_setPort_same, State.setPort_setPort_same]
    exact (s.keepsPorts_setPort fun _ => PortRec.ok_cleared_none _).trans (State.onlyPosts_tenancyReset _ p).keepsPorts
  unfold State.lose
  dsimp only
  split
  · exact hreset.trans (State.onlyPosts_halt _ _).keepsPorts
  · exact hreset

/-! ### The lesson clock with a LESSON_PAUSE that meets a capture (R144, R151, R159; log 17) -/

theorem State.keepsPorts_meetPause (s : State) (o : Option Port) : s.KeepsPorts (s.meetPause o) := by
  unfold State.meetPause
  split
  · exact s.keepsPorts_serve_posts _ _ fun _ => s.onlyPosts_lessonPause _
  · exact .refl s

theorem State.keepsPorts_lessonSecond (s : State) (o : Option Port) : s.KeepsPorts (s.lessonSecond o) := by
  unfold State.lessonSecond
  split
  · exact .refl s
  · split
    · have hcapture : s.OnlyPosts (s.withLesson { s.lesson with timed := 0 }).capturingTimed.state :=
        .after (State.onlyPosts_capturingTimed _) rfl
      exact (hcapture.keepsPorts.trans (State.keepsPorts_meetPause _ o)).trans (.of_ports rfl)
    · exact .of_ports rfl

theorem State.keepsPorts_clockTick (s : State) (o : Option Port) : s.KeepsPorts (s.clockTick o) := by
  unfold State.clockTick
  dsimp only
  split
  · exact State.KeepsPorts.trans (t := s.withLesson s.lesson.tick.1) (.of_ports rfl) (State.keepsPorts_lessonSecond _ o)
  · exact .of_ports rfl

/-! ### Every command -/

/-- Every command that answers a next state keeps each port's figures. -/
theorem exec_keepsPorts {i : Instr} {s t : State} (h : exec i s = .next t) : s.KeepsPorts t := by
  cases i with
  | partReset sense panel desk recorder =>
    cases h
    intro p _
    cases p <;> exact PortRec.ok_reset _
  | requestWrite p part => cases h; exact s.keepsPorts_setPort fun h => PortRec.ok_writePart h part
  | fetch p part => cases h; exact s.keepsPorts_setPort fun h => PortRec.ok_fetchPart h part
  | presenceRestored p =>
    cases h
    exact s.keepsPorts_setPort fun ⟨hroom, hnodup, horder, _⟩ => ⟨hroom, hnodup, horder, nofun⟩
  | unknownRequestCode p =>
    cases h
    split
    · exact .refl s
    · next k q hc =>
      split
      · exact .refl s
      · exact s.keepsPorts_reply (PortRec.mem_order_of_current hc) _ _ _
  | presenceLost p => exact State.keepsPorts_ite h (s.keepsPorts_lose p)
  | partRead p part => exact s.keepsPorts_partRead p part h
  | setParam p =>
    cases h
    refine s.keepsPorts_serve p _ fun k q hc => ?_
    obtain ⟨hkeeps, horder⟩ := s.keepsPorts_setParam p q
    exact ⟨hkeeps, by rw [horder]; exact PortRec.mem_order_of_current hc⟩
  | getParam p => exact keepsPorts_serveOpen h fun q => .of_ports (by rw [State.getParam_state])
  | portReset p => cases h; exact s.keepsPorts_serve p _ fun _ _ hc => s.keepsPorts_resetOwn hc
  | claimView p => exact keepsPorts_serveOpen h fun q => s.onlyPosts_claim p q
  | releaseView p => exact keepsPorts_serveOpen h fun _ => s.onlyPosts_release p
  | withdrawClaim p => exact keepsPorts_serveOpen h fun _ => .of_ports rfl
  | tenancyRead p | viewRead p | pictureRead p | feedRead p | lessonRead p | exportRead p =>
    exact keepsPorts_serveOpen h fun _ => .refl s
  | idleYield => exact State.keepsPorts_ite h s.onlyPosts_tenancyTick.keepsPorts
  | zoomTo p | zoomBy p | panTo p | panBy p | blank p | unblank p => exact keepsPorts_serveGated h fun _ _ => .of_ports rfl
  | setSource p => exact keepsPorts_serveGated h fun q u => u.onlyPosts_setSource p q
  | freeze p => exact keepsPorts_serveGated h fun _ u => u.onlyPosts_freeze p
  | unfreeze p => exact keepsPorts_serveGated h fun _ u => u.onlyPosts_unfreeze p
  | setClarity p => exact keepsPorts_serveGated h fun q u => u.onlyPosts_setClarity q
  | setExposure p => exact keepsPorts_serveGated h fun q u => u.onlyPosts_setExposure q
  | setLamp p => exact keepsPorts_serveGated h fun q u => u.onlyPosts_setLamp q
  | setOutputMode p => exact keepsPorts_serveGated h fun q u => u.onlyPosts_setOutputMode q
  | captureNow p | captureNext p => cases h; exact s.keepsPorts_serve_posts p _ fun q => s.onlyPosts_capture p q
  | discard p => exact keepsPorts_serveOpen h fun q => s.onlyPosts_discard p q
  | label p => exact keepsPorts_serveOpen h fun q => s.onlyPosts_setLabel q
  | pageRead p => exact keepsPorts_serveOpen h fun q => .of_ports (by rw [State.pageRead_state])
  | thumbRead p => exact keepsPorts_serveOpen h fun q => .of_ports (by rw [State.thumbRead_state])
  | lessonStart p => exact keepsPorts_serveOpen h fun _ => s.onlyPosts_lessonStart p
  | lessonPause p => cases h; exact s.keepsPorts_meetPause (some p)
  | lessonResume p => exact keepsPorts_serveOpen h fun _ => s.onlyPosts_lessonResume p
  | lessonEnd p => exact keepsPorts_serveOpen h fun _ => s.onlyPosts_lessonEnd p
  | lessonClear p => exact keepsPorts_serveOpen h fun _ => s.onlyPosts_lessonClear
  | exportPage p => exact keepsPorts_serveOpen h fun q => s.onlyPosts_exportPage p q
  | exportStop p => exact keepsPorts_serveOpen h fun q => s.onlyPosts_exportStop q
  | exportContinue p => exact keepsPorts_serveOpen h fun q => s.onlyPosts_exportContinue q
  | exportResume p => exact keepsPorts_serveOpen h fun _ => s.onlyPosts_exportResume
  | sensorFrameStart elapsed => cases h; exact .of_ports (by simp)
  | sensorLineStart | sensorPixelPair pair =>
    cases h
    split
    · exact .refl s
    · exact .of_ports rfl
  | sensorLineEnd => exact (onlyPosts_sensorLineEnd h).keepsPorts
  | sensorFrameEnd => exact (onlyPosts_sensorFrameEnd h).keepsPorts
  | frameCompletion =>
    cases h
    split
    · exact (s.onlyPosts_complete _).keepsPorts
    · exact .refl s
  | intakeWriteFault buffer => exact State.keepsPorts_ite h (.of_ports rfl)
  | stallEvent => exact State.keepsPorts_ite h s.onlyPosts_countOutputFrame.keepsPorts
  | lightFrameReport => cases h; exact .of_ports (by simp)
  | autoLampStep => exact State.keepsPorts_ite h (.of_ports (by simp))
  | motionFrameReport => cases h; exact .of_ports (by simp)
  | detectorFire => exact State.keepsPorts_ite h (.of_ports (by simp))
  | pageStoreFrameReport => cases h; exact s.onlyPosts_storeNextReport.keepsPorts
  | outputFrameStart => cases h; exact (s.onlyPosts_commitAndBegin.trans (State.onlyPosts_countOutputFrame _)).keepsPorts
  | feedStarted => exact State.keepsPorts_ite h s.onlyPosts_commitAndBegin.keepsPorts
  | sensePresent =>
    cases h
    split
    · exact .refl s
    · exact (s.onlyPosts_enterFeed _ _).keepsPorts
  | senseAbsent => exact State.keepsPorts_ite h (s.onlyPosts_enterFeed _ _).keepsPorts
  | feedReadFault area buffer line pair =>
    cases h
    split
    · split
      · exact (s.onlyPosts_readFault _ _ _ _).keepsPorts
      · exact .refl s
    · exact .refl s
  | millisecondTick pause =>
    cases h
    have hlink : ∀ u : State, u.OnlyPosts u.timelineTick.linkTick := fun u => .after (State.onlyPosts_linkTick u.timelineTick) rfl
    exact (s.onlyPosts_tenancyTick.keepsPorts.trans (State.keepsPorts_clockTick _ pause)).trans (hlink _).keepsPorts
  | clockCentisecond pause => exact State.keepsPorts_ite h (s.keepsPorts_clockTick pause)
  | timedCaptureExpiry pause => exact State.keepsPorts_ite h (s.keepsPorts_lessonSecond pause)
  | lampPulseStart => cases h; exact .of_ports rfl
  | lampOnTimeEnd => exact State.keepsPorts_ite h (.of_ports rfl)
  | exportPull part =>
    cases part with
    | opening => exact (onlyPosts_openTransfer h).keepsPorts
    | clock count => cases h; exact (s.onlyPosts_clockTransfer count).keepsPorts
    | closing => cases h; exact s.onlyPosts_closeTransfer.keepsPorts
  | exportDeliveryCompleted => cases h; exact s.onlyPosts_lastByte.keepsPorts
  | exportDeliveryTimeout => exact State.keepsPorts_ite h s.onlyPosts_linkTick.keepsPorts
  | exportLinkError => cases h; exact (s.onlyPosts_halt _).keepsPorts
  | exportMemoryFault channel buffer => exact State.keepsPorts_ite h (s.onlyPosts_halt _).keepsPorts

/-- Every step of the part keeps each port's figures. -/
theorem step_keepsPorts {s t : State} (h : step s = .next t) : s.KeepsPorts t := by
  unfold step at h
  split at h
  · cases h; exact .of_ports (by simp)
  · next c rest _ => exact State.KeepsPorts.trans (.of_ports rfl) (exec_keepsPorts (s := s.withPending rest) h)

/-- Settles O6: a request is taken into a FREE slot, a reply stands in the slot of a request handed on, a FETCH frees the slot it
empties, and every other operation reaches the ports by its notices. -/
theorem portRecordsStayBounded : Obligations.PortRecordsStayBounded := fun s t hs h =>
  t.portsOk_iff.2 fun p => step_keepsPorts h p (s.portsOk_iff.1 hs p)

end Sys2Proof.Machine
